-- ==== Sys2Proof/Word.lean ====
section
/-! DEFINITION. The word types of the part: a byte on a wire, an Ethernet address, a counter. -/

namespace Sys2Proof

/-- One byte of a frame or of a marker. -/
abbrev Byte := BitVec 8

/-- A 48-bit Ethernet address; the first byte written is the most significant byte. -/
abbrev Addr := BitVec 48

/-- A 32-bit wrapping counter (R195). -/
abbrev Counter := BitVec 32

end Sys2Proof
end

