-- ==== Sys2Proof/Syntax.lean ====
section
/-! DEFINITION. The commands of the block: one constructor for each row of spec/opcode_table.json. -/

namespace Sys2Proof

/-- A command is one event of the part. `dt` is the time, in units of 10 ns, from the command before to this
one; a command without `dt` stands for the end of an interval and is taken at that end (log 1).
A request command stands for the agent's take of the frame at the head of its input list, when that frame is
a request of the row (R157, R158, log 3); the request's own items are in the frame. -/
inductive Instr where
  /-- IDENTIFY (R202). -/
  | identify (dt : Nat)
  /-- CLAIM (R170). -/
  | claim (dt : Nat)
  /-- RELEASE (R174). -/
  | release (dt : Nat)
  /-- RESET_DEVICE (R175). -/
  | resetDevice (dt : Nat)
  /-- READ_ROUND (R6, R7). -/
  | readRound (dt : Nat)
  /-- WRITE_ROUND (R8, R9). -/
  | writeRound (dt : Nat)
  /-- SET_ROUND_PARAMS (R10). -/
  | setRoundParams (dt : Nat)
  /-- COMMIT_ROUND (R11 to R13). -/
  | commitRound (dt : Nat)
  /-- DISARM_ROUND (R14). -/
  | disarmRound (dt : Nat)
  /-- READ_TRUNK (R29). -/
  | readTrunk (dt : Nat)
  /-- START_TRUNK (R25). -/
  | startTrunk (dt : Nat)
  /-- STOP_TRUNK (R27). -/
  | stopTrunk (dt : Nat)
  /-- READ_STATIONS (R80). -/
  | readStations (dt : Nat)
  /-- ENROL_STATION (R75). -/
  | enrolStation (dt : Nat)
  /-- WITHDRAW_STATION (R76). -/
  | withdrawStation (dt : Nat)
  /-- SET_STATION with action MUTE (R77). -/
  | setStationMute (dt : Nat)
  /-- SET_STATION with action RESTORE (R78). -/
  | setStationRestore (dt : Nat)
  /-- SET_STATION with action BIND (R79). -/
  | setStationBind (dt : Nat)
  /-- SET_STATION with action UNBIND (R79). -/
  | setStationUnbind (dt : Nat)
  /-- READ_RULES (R113). -/
  | readRules (dt : Nat)
  /-- WRITE_RULES (R114, R115). -/
  | writeRules (dt : Nat)
  /-- SET_DEFAULTS (R116). -/
  | setDefaults (dt : Nat)
  /-- READ_QUEUES (R134). -/
  | readQueues (dt : Nat)
  /-- SET_QUEUE_LIMITS (R135). -/
  | setQueueLimits (dt : Nat)
  /-- FLUSH_QUEUE (R136). -/
  | flushQueue (dt : Nat)
  /-- READ_NOTICES (R192). -/
  | readNotices (dt : Nat)
  /-- ACK_NOTICES (R190). -/
  | ackNotices (dt : Nat)
  /-- READ_COUNTERS with clear flag 0 (R198). -/
  | readCounters (dt : Nat)
  /-- READ_COUNTERS with a clear flag other than 0 (R197, R199). -/
  | readCountersClear (dt : Nat)
  /-- Power is applied: a POWER reset begins (R205). -/
  | powerApplied (dt : Nat)
  /-- RSTN has been held low for 1 µs (R205). -/
  | rstnAsserted (dt : Nat)
  /-- The reset period ends; `crs` and `link` are the levels of TK_CRS and LINK then (R204, R84, R139). -/
  | resetEnd (crs link : Bool)
  /-- LINK reports the link up (R148). -/
  | linkUp (dt : Nat)
  /-- LINK reports the link down (R149). -/
  | linkDown (dt : Nat)
  /-- TK_CRS rises (R83, R85). -/
  | carrierOn (dt : Nat)
  /-- TK_CRS is low from here on and TK_COL stands at `col`; `bits` are the bits received since the start of
  the burst, first bit first (R85, R86). -/
  | carrierOff (dt : Nat) (col : Bool) (bits : List Bool)
  /-- TK_COL rises (R85, R89). -/
  | collision (dt : Nat)
  /-- The carrier of one burst reaches 12,800 BT (R90). -/
  | overrun
  /-- The echo allowance ends; `crs` and `col` are the levels of TK_CRS and TK_COL then (R84, R85). -/
  | echoAllowanceEnd (crs col : Bool)
  /-- A marker has been sent in full (R92). -/
  | markerEnd
  /-- A head frame or a fill frame has been sent in full (R50). -/
  | headFrameEnd
  /-- The answer window expires (R37). -/
  | answerWindowExpiry
  /-- The continue window expires (R40). -/
  | continueWindowExpiry
  /-- The turnaround ends (R52). -/
  | turnaroundEnd
  /-- The inter-frame gap on the trunk ends (R49, R58). -/
  | interFrameGapEnd
  /-- A quiet interval is seen (R23). -/
  | quietInterval
  /-- The round floor expires (R57). -/
  | floorExpiry
  /-- UL_RXDV falls at the end of an uplink frame; `groups` are the groups of four bits received after the start
  delimiter, and `rxError` says whether UL_RXER was asserted in them (R138, R140). -/
  | receiveCompletion (dt : Nat) (groups : List (BitVec 4)) (rxError : Bool)
  /-- An uplink transmission ends (R146). -/
  | uplinkTransmissionEnd
  /-- The gap of 96 uplink bit times ends (R143). -/
  | uplinkGapEnd
  /-- The lease expiry time is reached (R172). -/
  | leaseExpiry
  /-- The session of this address and tag reaches 300 s of idle time (R164). -/
  | sessionIdleEnd (address : Addr) (tag : BitVec 16)
  /-- The retry time of the notice of this number is reached (R189). -/
  | retryTime (number : BitVec 16)
  /-- One second counted on CLK25 ends (R201). -/
  | secondsSinceResetTick
  /-- The uplink receiver begins a frame; `heard` is the time since the command before, and the groups of four bits
  received from the rise of UL_RXDV up to here, the start delimiter last (R138, R140; log 23). -/
  | receiverBeginsFrame (heard : Nat × List (BitVec 4))
  /-- During a POWER reset the supply settles (R204). -/
  | supplySettled (dt : Nat)
  /-- RSTN is deasserted (R205). -/
  | rstnDeasserted (dt : Nat)
  /-- A lit or dark stretch of the LED_TRUNK flash expires (R213). -/
  | ledTrunkFlash
  deriving DecidableEq, Repr

end Sys2Proof
end

