-- ==== Sys2Proof/Decode.lean ====
section
/-! DEFINITION. The commands that words spell. No row of spec/opcode_table.json gives bits: the commands of
this block are events on its pins and ports, so no word spells one. The bits the part itself decodes, those of
management frames and of trunk bursts, are read in Machine/Operands.lean. -/

namespace Sys2Proof

/-- The command a word spells: none, for every word. -/
def decodeTableWord (_nbits _w : Nat) : Option Instr := none

end Sys2Proof
end

