-- ==== Sys2Proof/Machine/Bytes.lean ====
section
/-! DEFINITION. Bytes and bits on the wire: byte order, fields of a list of bytes, the frame check sequence
(R82, R207). -/

namespace Sys2Proof.Machine

/-- A number as one byte. -/
def byteOf (n : Nat) : Byte := BitVec.ofNat 8 n

/-- A number as two bytes, most significant first (R207). -/
def bytes2 (n : Nat) : List Byte := [byteOf (n / 256), byteOf n]

/-- A number as four bytes, most significant first (R207). -/
def bytes4 (n : Nat) : List Byte :=
  [byteOf (n / 2 ^ 24), byteOf (n / 2 ^ 16), byteOf (n / 2 ^ 8), byteOf n]

/-- An address as six bytes, the first one written first (R106, R207). -/
def addrBytes (a : Addr) : List Byte :=
  [a.extractLsb' 40 8, a.extractLsb' 32 8, a.extractLsb' 24 8, a.extractLsb' 16 8, a.extractLsb' 8 8,
   a.extractLsb' 0 8]

/-- The byte at an offset; 0 past the end. -/
def byteAt (l : List Byte) (i : Nat) : Byte := l.getD i 0

/-- The byte at an offset, as a number. -/
def numAt (l : List Byte) (i : Nat) : Nat := (byteAt l i).toNat

/-- The two bytes at an offset, most significant first. -/
def wordAt (l : List Byte) (i : Nat) : BitVec 16 := byteAt l i ++ byteAt l (i + 1)

/-- The six bytes at an offset, as an address. -/
def addrAt (l : List Byte) (i : Nat) : Addr :=
  byteAt l i ++ byteAt l (i + 1) ++ byteAt l (i + 2) ++ byteAt l (i + 3) ++ byteAt l (i + 4) ++ byteAt l (i + 5)

/-- The group bit of an address: the low bit of its first byte (R106). -/
def groupBit (a : Addr) : Bool := a.getLsbD 40

/-- The bits of a byte in the order they are sent, least significant first (R82). -/
def bitsOfByte (b : Byte) : List Bool := (List.range 8).map b.getLsbD

/-- The bits of a list of bytes in the order they are sent. -/
def bitsOfBytes (l : List Byte) : List Bool := l.flatMap bitsOfByte

/-- One byte from bits in the order received, least significant first; bits that are missing count as 0. -/
def byteOfBits (bits : List Bool) : Byte :=
  byteOf ((bits.take 8).foldr (fun b n => b.toNat + 2 * n) 0)

/-- The whole bytes of a run of bits, at most `fuel` of them; bits after the last whole byte are discarded (R88). -/
def wholeBytes : Nat → List Bool → List Byte
  | 0, _ => []
  | fuel + 1, bits =>
    if bits.length < 8 then [] else byteOfBits bits :: wholeBytes fuel (bits.drop 8)

/-- All the whole bytes of a run of bits. -/
def bytesOfBits (bits : List Bool) : List Byte := wholeBytes (bits.length / 8) bits

/-- The two groups of four bits of a list of bytes in the order they pass on the uplink, the low four bits of each
byte first (R138). -/
def groupsOfBytes (l : List Byte) : List (BitVec 4) := l.flatMap fun b => [b.extractLsb' 0 4, b.extractLsb' 4 4]

/-- The whole bytes of a run of groups, the low four bits of each byte first; a final half byte is discarded
(R138, R140). -/
def bytesOfGroups : List (BitVec 4) → List Byte
  | low :: high :: rest => (high ++ low) :: bytesOfGroups rest
  | _ => []

/-- A byte of the preamble pattern (R140, R212). -/
def preambleByte : Byte := 0x55

/-- The start delimiter (R140, R212). -/
def startDelimiter : Byte := 0xD5

/-- What is put on a wire for a frame: seven bytes of preamble pattern, the start delimiter, and the frame with its
FCS as it is held (R93, R143). -/
def wireBytes (frame : List Byte) : List Byte := List.replicate 7 preambleByte ++ startDelimiter :: frame

/-- How many bytes pass up to the first start delimiter that follows a byte of the preamble pattern, with it (R140). -/
def firstDelimiter : List Byte → Option Nat
  | a :: b :: rest =>
    if a == preambleByte && b == startDelimiter then some 2 else (firstDelimiter (b :: rest)).map (· + 1)
  | _ => none

/-- Bits enter the check register one by one: generator polynomial 0x04C11DB7 (R207). -/
def fcsRun : List Bool → BitVec 32 → BitVec 32
  | [], r => r
  | bit :: rest, r =>
    if r.msb ^^ bit then fcsRun rest ((r <<< 1) ^^^ 0x04C11DB7#32) else fcsRun rest (r <<< 1)

/-- The frame check over a list of bytes: register preset to all ones, result complemented (R207). -/
def fcsRegister (l : List Byte) : BitVec 32 := ~~~ (fcsRun (bitsOfBytes l) 0xFFFFFFFF#32)

/-- The four FCS bytes: the coefficient of x^31 is sent first, and each byte is sent least significant bit
first (R207). -/
def fcsBytes (l : List Byte) : List Byte :=
  bytesOfBits ((List.range 32).map fun i => (fcsRegister l).getMsbD i)

/-- Whether the last four bytes are the FCS of the bytes before them (R207). -/
def fcsCorrect (frame : List Byte) : Bool :=
  frame.drop (frame.length - 4) == fcsBytes (frame.take (frame.length - 4))

end Sys2Proof.Machine
end

