-- ==== Sys2Proof/Config.lean ====
section
/-! DEFINITION. What is fixed at manufacture: the codes, capacities and addresses of IDENTIFY (R202, R203). -/

namespace Sys2Proof.Config

/-- Vendor code (R202). -/
def vendorCode : Nat := 0x5A4A

/-- Part code (R202). -/
def partCode : Nat := 0x0310

/-- Revision (R202). -/
def revision : Nat := 1

/-- Management group address 0B-3A-6C-00-00-01, the same on every part (R203). -/
def groupAddress : Addr := 0x0B3A6C000001#48

/-- Entries of a round table bank (R1). -/
def roundEntries : Nat := 64

/-- Stations the table can hold (R60). -/
def stationCount : Nat := 30

/-- Admission rules (R99). -/
def ruleCount : Nat := 16

/-- Cells of the pool (R118). -/
def cellCount : Nat := 512

/-- Places of the notice list (R180). -/
def noticePlaces : Nat := 16

/-- Places of the session table (R160). -/
def sessionPlaces : Nat := 4

/-- Places of the agent's input list (R155). -/
def inputPlaces : Nat := 4

/-- Places of the agent's output list (R156). -/
def outputPlaces : Nat := 4

/-- The factory address `State.reset` holds: the one of the spec's worked examples. DESIGN CHOICE, unsafe
(log 6): each part has its own (R203). No statement rests on it; the address in use is a field of the state. -/
def exampleFactoryAddress : Addr := 0x025A4A03102E#48

end Sys2Proof.Config
end

