-- ==== Sys2Proof/Machine/State.lean ====
section
/-! DEFINITION. The state of the part, block by block, and the state right after a POWER reset. -/

namespace Sys2Proof.Machine

/-! ### Round Table Store (R1 to R4) -/

/-- Which downstream queues a head entry takes from (R2). -/
inductive Drain where
  | expFirst | normalOnly | expOnly
  deriving DecidableEq, Repr

/-- One round entry; station 0 is a head entry (R2). -/
structure RoundEntry where
  station : Nat
  credit : Nat
  window : Option Nat
  drain : Drain
  deriving DecidableEq, Repr

/-- The six round parameters, with their reset values (R3). -/
structure Header where
  answerWindow : Nat := 40
  continueWindow : Nat := 112
  missLimit : Nat := 3
  strikeLimit : Nat := 3
  probePeriod : Nat := 16
  floor : Nat := 0
  deriving DecidableEq, Repr

/-- A round table (R1); after reset it is empty with the reset header (R5). -/
structure Bank where
  header : Header := {}
  entries : List RoundEntry := []
  deriving DecidableEq, Repr

/-- The two banks, the generation number of ACTIVE and the armed flag of PENDING (R1, R4). -/
structure Store where
  active : Bank := {}
  pending : Bank := {}
  generation : BitVec 8 := 0
  armed : Bool := false
  deriving DecidableEq, Repr

/-! ### Round Engine (R22 to R24) -/

/-- The five trunk states (R22). -/
inductive TrunkState where
  | stopped | starting | running | stopping | blocked
  deriving DecidableEq, Repr

/-- The ten entry phases (R24). -/
inductive Phase where
  | roundMark | calling | awaiting | receiving | continuing | closing | sending | quieting | turnaround
  | floor
  deriving DecidableEq, Repr

/-- The phase in which a burst of an answer began (R23). -/
inductive BurstOrigin where
  | awaiting | continuing | closing
  deriving DecidableEq, Repr

/-- The engine's state (R22, R23) and the moments its timers end at. -/
structure Engine where
  trunk : TrunkState := .stopped
  phase : Option Phase := none
  round : BitVec 8 := 0
  index : Option Nat := none
  credit : Nat := 0
  roundStart : Option Nat := none
  firstEntry : List Nat := []
  origin : Option BurstOrigin := none
  framesInCall : Nat := 0
  badFrames : Nat := 0
  foreignFrames : Nat := 0
  fillSuspended : Bool := false
  /-- End of the answer window, continue window or turnaround that runs (R37, R40, R52). -/
  timer : Option Nat := none
  /-- End of the inter-frame gap that runs (R49, R58). -/
  gap : Option Nat := none
  /-- Entry into the state or phase that waits for a quiet interval (R23). -/
  quietFrom : Option Nat := none
  /-- Own: QUIETING was entered at a floor expiry and leads to the round boundary (R54, R57). -/
  toBoundary : Bool := false
  deriving DecidableEq, Repr

/-! ### Trunk Line Interface (R82 to R85, R97) -/

/-- The burst record (R83). `fromCol` is own: TK_COL began the burst (R85). -/
structure Burst where
  start : Nat
  bits : List Bool := []
  collision : Bool := false
  overrun : Bool := false
  fromCol : Bool := false
  deriving DecidableEq, Repr

/-- A marker's type and two payload bytes (R212). -/
structure Marker where
  type : Byte
  a : Byte
  b : Byte
  deriving DecidableEq, Repr

/-- What the head is sending: a marker, or the frame of the trunk on-air slot (R91). -/
inductive TrunkContent where
  | marker (m : Marker)
  | frame
  deriving DecidableEq, Repr

/-- A head transmission in progress and the moment its last bit has been sent (R92, R93). -/
structure TrunkTx where
  content : TrunkContent
  ends : Nat
  deriving DecidableEq, Repr

/-- An echo allowance (R83): its end, whether a COLLISION cut the transmission (R84), and whether TK_COL rose
while it ran (R85). -/
structure Echo where
  ends : Nat
  cut : Bool
  colRose : Bool := false
  deriving DecidableEq, Repr

/-- The line's state. The carrier level is on exactly while a burst is held (R83). -/
structure Line where
  burst : Option Burst := none
  lastOff : Option Nat := none
  tx : Option TrunkTx := none
  echo : Option Echo := none
  deriving DecidableEq, Repr

/-- The TRUNK counter set (R97). -/
structure TrunkCounters where
  roundsStarted : Counter := 0
  roundsAbandoned : Counter := 0
  strays : Counter := 0
  foreignMarkers : Counter := 0
  badMarkers : Counter := 0
  headCollisions : Counter := 0
  blockedEntries : Counter := 0
  deriving DecidableEq, Repr

/-! ### Station Table (R60 to R63) -/

/-- The four station states (R62). -/
inductive StationState where
  | unseen | present | lapsed | muted
  deriving DecidableEq, Repr

/-- Why a station is MUTED (R61). -/
inductive MuteCause where
  | strikes | overrun | manual
  deriving DecidableEq, Repr

/-- The twelve counters of a station (R63). -/
structure StationCounters where
  callsIssued : Counter := 0
  callsSkipped : Counter := 0
  passes : Counter := 0
  framesValid : Counter := 0
  framesAdmitted : Counter := 0
  fcsErrors : Counter := 0
  lengthErrors : Counter := 0
  foreignSource : Counter := 0
  misses : Counter := 0
  excess : Counter := 0
  collisions : Counter := 0
  overruns : Counter := 0
  deriving DecidableEq, Repr

/-- A station record (R61) with its clear stamp (R196). -/
structure Station where
  station : Nat
  state : StationState := .unseen
  missCount : Nat := 0
  strikeCount : Nat := 0
  cleanRun : Nat := 0
  lastAnswered : Option (BitVec 8) := none
  muteCause : Option MuteCause := none
  bound : Option Addr := none
  counters : StationCounters := {}
  clearStamp : BitVec 32 := 0
  deriving DecidableEq, Repr

/-! ### Admission Unit (R99 to R101) -/

/-- The frames a rule may match (R100). -/
inductive Direction where
  | up | down | either
  deriving DecidableEq, Repr

/-- What is done with a frame (R100). -/
inductive Action where
  | forward | expedite | drop | agent
  deriving DecidableEq, Repr

/-- An admission rule; the default values are those after reset (R100). -/
structure Rule where
  enabled : Bool := false
  direction : Direction := .up
  value : Addr := 0
  mask : Addr := 0
  type : Option (BitVec 16) := none
  origin : Option Nat := none
  action : Action := .forward
  hits : Counter := 0
  deriving DecidableEq, Repr

/-- The rule table, the default actions and the counters of the unit (R99, R101). -/
structure Admission where
  rules : List Rule := List.replicate Config.ruleCount {}
  defaultUp : Action := .forward
  defaultDown : Action := .forward
  hitsUp : Counter := 0
  hitsDown : Counter := 0
  agentRejects : Counter := 0
  deriving DecidableEq, Repr

/-! ### Queue Manager (R118 to R123, R137) -/

/-- Where a held frame came from (R119). -/
inductive FrameOrigin where
  | uplink
  | trunk (station : Nat)
  | agent
  deriving DecidableEq, Repr

/-- The band of a UQ frame (R119). -/
inductive Band where
  | expedited | normal
  deriving DecidableEq, Repr

/-- A frame with its descriptor (R119); its length and its cells are computed from its bytes. -/
structure Frame where
  bytes : List Byte
  origin : FrameOrigin
  band : Option Band
  abortCount : Option Nat
  deriving DecidableEq, Repr

/-- The queues, by their codes (R123). -/
inductive QueueName where
  | dx | dn | uq
  deriving DecidableEq, Repr

/-- The counters of one queue (R137). DX and DN have no LINK_DOWN, UQ has no returned and no ABORT_DROP: those
stay 0 and are reported nowhere. -/
structure QueueCounters where
  enqueued : Counter := 0
  transmitted : Counter := 0
  flushed : Counter := 0
  returned : Counter := 0
  frameLimit : Counter := 0
  cellLimit : Counter := 0
  pool : Counter := 0
  linkDown : Counter := 0
  abortDrop : Counter := 0
  deriving DecidableEq, Repr

/-- A queue: its frames, front first, its limits and its counters (R120, R123, R137). -/
structure Queue where
  frames : List Frame := []
  frameLimit : Nat
  cellLimit : Nat
  counters : QueueCounters := {}
  deriving DecidableEq, Repr

/-- The frame in the trunk on-air slot and the queue it came from (R121). -/
structure TrunkSlot where
  frame : Frame
  queue : QueueName
  deriving DecidableEq, Repr

/-- The pool's free count, the three queues and the two on-air slots, with the values after reset (R118, R122,
R123). -/
structure Queues where
  free : Nat := Config.cellCount
  dx : Queue := { frameLimit := 32, cellLimit := 96 }
  dn : Queue := { frameLimit := 128, cellLimit := 256 }
  uq : Queue := { frameLimit := 128, cellLimit := 256 }
  trunkSlot : Option TrunkSlot := none
  uplinkSlot : Option Frame := none
  deriving DecidableEq, Repr

/-! ### Uplink Port (R138, R139, R143, R152) -/

/-- What the uplink transmitter sends: the response at the head of the output list, a notice's frame with the
number it carries, or the frame of the uplink on-air slot (R145). -/
inductive UplinkSource where
  | response
  | notice (number : BitVec 16) (frame : List Byte)
  | forwarded
  deriving DecidableEq, Repr

/-- The transmitter's three states; SENDING and GAP with the moment they end (R143). -/
inductive UplinkTx where
  | idle
  | sending (source : UplinkSource) (ends : Nat)
  | gap (ends : Nat)
  deriving DecidableEq, Repr

/-- The PORTS counter set (R152). -/
structure PortCounters where
  rxGood : Counter := 0
  fcsErrors : Counter := 0
  lengthErrors : Counter := 0
  mgmtTaken : Counter := 0
  mgmtDropped : Counter := 0
  txResponses : Counter := 0
  txNotices : Counter := 0
  txForwarded : Counter := 0
  deriving DecidableEq, Repr

/-- The link state, the receiver, the transmitter and the counters of the port. -/
structure Uplink where
  link : Bool := false
  receiving : Bool := false
  tx : UplinkTx := .idle
  counters : PortCounters := {}
  deriving DecidableEq, Repr

/-! ### Management Agent (R155, R156, R160, R169, R175, R179) -/

/-- The way a request came (R155). -/
inductive Port where
  | uplink
  | trunk (station : Nat)
  deriving DecidableEq, Repr

/-- An entry of the input list: the frame as received and its origin (R155). -/
structure InputEntry where
  origin : Port
  bytes : List Byte
  deriving DecidableEq, Repr

/-- An entry of the output list: a response frame, and whether it answers a RESET_DEVICE that was carried out
(R146, R175). -/
structure OutputEntry where
  bytes : List Byte
  answersReset : Bool
  deriving DecidableEq, Repr

/-- A session record (R160); the last sequence and the stored response are absent or present together; the
idle time is the time since `lastTake`. -/
structure Session where
  address : Addr
  tag : BitVec 16
  origin : Port
  last : Option (BitVec 16 × List Byte) := none
  lastTake : Nat
  deriving DecidableEq, Repr

/-- The write lease while it is held (R169); the duration in seconds, the expiry as a moment. -/
structure Lease where
  address : Addr
  tag : BitVec 16
  duration : Nat
  expiry : Nat
  deriving DecidableEq, Repr

/-- The AGENT counter set (R179). -/
structure AgentCounters where
  requestsTaken : Counter := 0
  replays : Counter := 0
  refused : Counter := 0
  inputDrops : Counter := 0
  responsesDropped : Counter := 0
  sessionsEvicted : Counter := 0
  envelopeDiscards : Counter := 0
  deriving DecidableEq, Repr

/-- The agent's six pieces of state. -/
structure Agent where
  input : List InputEntry := []
  output : List OutputEntry := []
  sessions : List Session := []
  lease : Option Lease := none
  softReset : Bool := false
  counters : AgentCounters := {}
  deriving DecidableEq, Repr

/-! ### Notice List (R180 to R182, R194) -/

/-- The seven kinds of notice (R182). -/
inductive NoticeKind where
  | restarted | trunkState | tableSwapped | stationState | leaseEnded | poolExhausted | recovery
  deriving DecidableEq, Repr

/-- The four bytes of a notice's detail, in the order sent (R182). -/
structure Detail where
  b0 : Byte
  b1 : Byte
  b2 : Byte
  b3 : Byte
  deriving DecidableEq, Repr

/-- A notice record (R181); it is due exactly while its retry time is absent. -/
structure Notice where
  number : BitVec 16
  kind : NoticeKind
  station : Option Nat
  detail : Detail
  occurrences : Nat := 1
  firstRound : BitVec 8
  lastRound : BitVec 8
  sends : Nat := 0
  retry : Option Nat := none
  deriving DecidableEq, Repr

/-- The NOTICES counter set (R194). -/
structure NoticeCounters where
  raised : Counter := 0
  coalesced : Counter := 0
  overflowed : Counter := 0
  renewed : Counter := 0
  acknowledged : Counter := 0
  sendsRecorded : Counter := 0
  deriving DecidableEq, Repr

/-- The notice list, front first, the lost count and the next number (R180). -/
structure NoticeList where
  records : List Notice := []
  lost : Nat := 0
  next : BitVec 16 := 0
  counters : NoticeCounters := {}
  deriving DecidableEq, Repr

/-! ### Counters, identity, resets, pins (R196, R201 to R206, R213) -/

/-- The clear stamps of the sets but STATION, whose stamp each record holds (R196). -/
structure Stamps where
  ports : BitVec 32 := 0
  trunk : BitVec 32 := 0
  queues : BitVec 32 := 0
  rules : BitVec 32 := 0
  agent : BitVec 32 := 0
  notices : BitVec 32 := 0
  deriving DecidableEq, Repr

/-- The kinds of reset (R204). -/
inductive ResetKind where
  | power | pin | soft
  deriving DecidableEq, Repr

/-- A reset in progress (R204, R205): its kind so far, when it began, and when the supply settled and RSTN was
deasserted in it. -/
structure ResetRun where
  kind : ResetKind
  began : Nat
  settled : Option Nat := none
  released : Option Nat := none
  deriving DecidableEq, Repr

/-- What changes of the identity (R203), the factory address, and the start of the second that runs (own). -/
structure Identity where
  factory : Addr
  cause : ResetKind := .power
  seconds : BitVec 32 := 0
  secondStart : Nat := 0
  deriving DecidableEq, Repr

/-- The levels of the input pins as the commands left them. -/
structure Pins where
  rstn : Bool := true
  link : Bool := false
  tkCrs : Bool := false
  tkCol : Bool := false
  deriving DecidableEq, Repr

/-- The LED_TRUNK output and the end of the flash stretch that runs (R213). -/
structure Led where
  lit : Bool := false
  stretch : Option Nat := none
  deriving DecidableEq, Repr

/-- The whole state. `pending` is the queue of commands and `now` the clock in units of 10 ns: the model's own. -/
structure State where
  pending : List Instr
  now : Nat
  resetRun : Option ResetRun
  pins : Pins
  store : Store
  engine : Engine
  line : Line
  trunkCounters : TrunkCounters
  stations : List Station
  admission : Admission
  queues : Queues
  uplink : Uplink
  agent : Agent
  notices : NoticeList
  stamps : Stamps
  identity : Identity
  led : Led
  deriving DecidableEq, Repr

/-- Why a command stops with a fault: never. No rule of the spec stops the part, so the type is empty. -/
inductive Fault where
  deriving DecidableEq, Repr

/-- Why a command has no meaning in the model. -/
inductive Refusal where
  /-- Raised by `exec` for a command without a meaning yet; safe, since the model then says nothing. -/
  | notModelled (mnemonic : String)
  deriving DecidableEq, Repr

/-- The RESTARTED record that every reset leaves as the whole list (R193). -/
def NoticeList.restarted (causeCode : Byte) : NoticeList :=
  { records := [{ number := 0, kind := .restarted, station := none, detail := ⟨causeCode, 0, 0, 0⟩,
                  firstRound := 0, lastRound := 0 }],
    next := 1 }

/-- The part right after the end of a POWER reset, with LINK low and a quiet line (R204; log 5): every block at
its reset values, and RESTARTED raised with cause POWER (R193). -/
def State.reset : State where
  pending := []
  now := 0
  resetRun := none
  pins := {}
  store := {}
  engine := {}
  line := {}
  trunkCounters := {}
  stations := []
  admission := {}
  queues := {}
  uplink := {}
  agent := {}
  notices := .restarted 0x01
  stamps := {}
  identity := { factory := Config.exampleFactoryAddress }
  led := {}

end Sys2Proof.Machine
end

