-- ==== Sys2Proof/Machine/Operands.lean ====
section
/-! DEFINITION. What a command's operands and the frames it takes say: the class of a burst (R86 to R88), the
markers (R212), the management frame and its envelope (R153, R207), the record items of request bodies (R211). -/

namespace Sys2Proof.Machine

/-! ### Markers (R87, R92, R212) -/

/-- Type of ROUND_START. -/
def roundStartType : Byte := 0x1C

/-- Type of CALL. -/
def callType : Byte := 0x2C

/-- Type of PASS. -/
def passType : Byte := 0x3C

/-- The check byte: 255 − ((type + A + B) mod 256) (R92). -/
def Marker.check (m : Marker) : Byte := 255 - (m.type + m.a + m.b)

/-- The six bytes of a marker (R212). -/
def Marker.bytes (m : Marker) : List Byte := [0x33, 0x0F, m.type, m.a, m.b, m.check]

/-- Whether the type is known and the payload bytes lie in its ranges (R87). -/
def Marker.inRange (m : Marker) : Bool :=
  (m.type == roundStartType)
  || (m.type == callType && 1 ≤ m.a.toNat && m.a.toNat ≤ 30 && 1 ≤ m.b.toNat && m.b.toNat ≤ 8)
  || (m.type == passType && 1 ≤ m.a.toNat && m.a.toNat ≤ 30 && m.b == 0)

/-- The ROUND_START of a round under a generation (R31). -/
def roundStartMarker (round generation : BitVec 8) : Marker := ⟨roundStartType, round, generation⟩

/-- The CALL to a station with a credit (R36). -/
def callMarker (station credit : Nat) : Marker := ⟨callType, byteOf station, byteOf credit⟩

/-! ### Classes of a burst (R86 to R88) -/

/-- Why a frame is bad (R88). -/
inductive BadReason where
  | length | fcs
  deriving DecidableEq, Repr

/-- The class of a burst with the contents it delivers (04, section 4.2). -/
inductive BurstClass where
  | validFrame (bytes : List Byte)
  | badFrame (reason : BadReason)
  | marker (m : Marker)
  | badMarker
  | noise
  deriving DecidableEq, Repr

/-- The 16 lead-in bits on the wire (R212). -/
def leadIn : List Bool := bitsOfBytes [0x33, 0x0F]

/-- The number of bits before the first pair of equal consecutive bits, and the value of the pair. -/
def firstPair : List Bool → Option (Nat × Bool)
  | a :: b :: rest => if a == b then some (0, a) else (firstPair (b :: rest)).map fun p => (p.1 + 1, p.2)
  | _ => none

/-- The class of a marker candidate (R87). -/
def classifyMarker (bits : List Bool) : BurstClass :=
  let bytes := bytesOfBits bits
  let m : Marker := ⟨byteAt bytes 2, byteAt bytes 3, byteAt bytes 4⟩
  if bits.length == 48 && byteAt bytes 5 == m.check && m.inRange then .marker m else .badMarker

/-- The class of a frame from its whole bytes after the start delimiter (R88). -/
def classifyFrame (bytes : List Byte) : BurstClass :=
  if bytes.length < 64 || bytes.length > 1522 then .badFrame .length
  else if fcsCorrect bytes then .validFrame bytes
  else .badFrame .fcs

/-- The class from the burst's bits alone (R86): a marker candidate begins with the lead-in; a frame candidate
has at least 30 bits before the first pair of equal bits, which is a pair of 1 bits ending by the 64th bit. -/
def classifyBits (bits : List Bool) : BurstClass :=
  if bits.take 16 == leadIn then classifyMarker bits
  else match firstPair bits with
    | some (before, true) =>
      if 30 ≤ before && before + 2 ≤ 64 then classifyFrame (bytesOfBits (bits.drop (before + 2))) else .noise
    | _ => .noise

/-- The class of a burst at its end (R86): NOISE if a COLLISION or an OVERRUN was delivered in it. -/
def Burst.classify (b : Burst) : BurstClass :=
  if b.collision || b.overrun then .noise else classifyBits b.bits

/-! ### Ethernet and management frames (R107, R153, R207) -/

/-- The destination address of a frame. -/
def frameDst (f : List Byte) : Addr := addrAt f 0

/-- The source address of a frame (R74). -/
def frameSrc (f : List Byte) : Addr := addrAt f 6

/-- The type field: bytes 12 and 13 (R107). -/
def frameType (f : List Byte) : BitVec 16 := wordAt f 12

/-- The type of a management frame. -/
def mgmtType : BitVec 16 := 0xA7D1#16

/-- The longest management frame (R153). -/
def mgmtMaxLength : Nat := 508

/-- The version field of the envelope. -/
def envVersion (f : List Byte) : Byte := byteAt f 14

/-- The kind field of the envelope. -/
def envKind (f : List Byte) : Byte := byteAt f 15

/-- The session tag field of the envelope. -/
def envTag (f : List Byte) : BitVec 16 := wordAt f 16

/-- The sequence field of the envelope. -/
def envSeq (f : List Byte) : BitVec 16 := wordAt f 18

/-- The code field of the envelope. -/
def envCode (f : List Byte) : Byte := byteAt f 20

/-- The body length the envelope gives. -/
def envBodyLength (f : List Byte) : Nat := (wordAt f 22).toNat

/-- The bytes present for the body: L − 28 (R207). -/
def bodyPresent (f : List Byte) : Nat := f.length - 28

/-- The body: from the byte after the envelope, for the body length (R153). -/
def envBody (f : List Byte) : List Byte := (f.drop 24).take (envBodyLength f)

/-- Kind REQUEST (R153). -/
def kindRequest : Byte := 1

/-- Kind RESPONSE (R153). -/
def kindResponse : Byte := 2

/-- Kind NOTICE (R153). -/
def kindNotice : Byte := 3

/-- A management frame the part builds: addresses, type, envelope, body, padding to 64 bytes, FCS (R154, R187,
R207). -/
def buildFrame (dst src : Addr) (kind : Byte) (tag seq : BitVec 16) (code status : Byte) (body : List Byte) :
    List Byte :=
  let head := addrBytes dst ++ addrBytes src ++ bytes2 mgmtType.toNat ++ [1, kind] ++ bytes2 tag.toNat
    ++ bytes2 seq.toNat ++ [code, status] ++ bytes2 body.length ++ body
  let padded := head ++ List.replicate (60 - head.length) 0
  padded ++ fcsBytes padded

/-- A request judged by the agent: how it came, who sent it, and its envelope's fields (R153, R155). -/
structure Request where
  origin : Port
  src : Addr
  tag : BitVec 16
  seq : BitVec 16
  code : Byte
  body : List Byte
  deriving DecidableEq, Repr

/-- The request an input list entry holds. -/
def InputEntry.request (e : InputEntry) : Request :=
  { origin := e.origin, src := frameSrc e.bytes, tag := envTag e.bytes, seq := envSeq e.bytes,
    code := envCode e.bytes, body := envBody e.bytes }

/-! ### Request codes (R208) -/

/-- The codes that name a request of the part (R208). -/
def requestCodes : List Byte :=
  [0x01, 0x02, 0x03, 0x04, 0x10, 0x11, 0x12, 0x13, 0x14, 0x20, 0x21, 0x22, 0x30, 0x31, 0x32, 0x33, 0x40, 0x41,
   0x42, 0x50, 0x51, 0x52, 0x60, 0x61, 0x70]

/-- Code of READ_COUNTERS. -/
def codeReadCounters : Byte := 0x70

/-- Code of SET_STATION. -/
def codeSetStation : Byte := 0x33

/-! ### Record items of request bodies (R210, R211) -/

/-- The drain of a code (R2). -/
def drainOfCode : Nat → Drain
  | 1 => .normalOnly
  | 2 => .expOnly
  | _ => .expFirst

/-- Whether the four bytes of a round entry meet the ranges of R2, as the ENTRY check reads them (R8). -/
def roundEntryValid (item : List Byte) : Bool :=
  let station := numAt item 0
  let credit := numAt item 1
  let window := numAt item 2
  let drain := numAt item 3
  station ≤ 30 && 1 ≤ credit && credit ≤ 8 && (window == 0 || 16 ≤ window) && (station != 0 || window == 0)
    && drain ≤ 2 && (station == 0 || drain == 0)

/-- The round entry of four bytes (R211). -/
def roundEntryOf (item : List Byte) : RoundEntry :=
  { station := numAt item 0, credit := numAt item 1,
    window := if numAt item 2 == 0 then none else some (numAt item 2),
    drain := drainOfCode (numAt item 3) }

/-- The `n` items of `size` bytes each from a list of bytes. -/
def itemsOf (size : Nat) : Nat → List Byte → List (List Byte)
  | 0, _ => []
  | n + 1, l => l.take size :: itemsOf size n (l.drop size)

/-- The header of seven bytes (R211). -/
def headerOf (l : List Byte) : Header :=
  { answerWindow := numAt l 0, continueWindow := numAt l 1, missLimit := numAt l 2, strikeLimit := numAt l 3,
    probePeriod := numAt l 4, floor := (wordAt l 5).toNat }

/-- The direction of a code (R100). -/
def directionOfCode : Nat → Direction
  | 1 => .down
  | 2 => .either
  | _ => .up

/-- The action of a code (R100). -/
def actionOfCode : Nat → Action
  | 1 => .expedite
  | 2 => .drop
  | 3 => .agent
  | _ => .forward

/-- Whether a rule item as written passes check RULE (R114, R211). -/
def ruleItemValid (item : List Byte) : Bool :=
  numAt item 1 ≤ 2 && numAt item 2 ≤ 3 && numAt item 17 ≤ 30 && (numAt item 1 != 1 || numAt item 17 == 0)

/-- The rule of an item as written, hit counter 0 (R115, R211). -/
def ruleOf (item : List Byte) : Rule :=
  { enabled := (byteAt item 0).getLsbD 0,
    direction := directionOfCode (numAt item 1),
    action := actionOfCode (numAt item 2),
    value := addrAt item 3,
    mask := addrAt item 9,
    type := if (byteAt item 0).getLsbD 1 then some (wordAt item 15) else none,
    origin := if numAt item 17 == 0 then none else some (numAt item 17),
    hits := 0 }

/-- The queue of a code (R123). -/
def queueOfCode : Nat → Option QueueName
  | 0 => some .dx
  | 1 => some .dn
  | 2 => some .uq
  | _ => none

/-- The position of the first element that fails a check. -/
def firstFailing {α : Type} (check : α → Bool) : List α → Option Nat
  | [] => none
  | x :: rest => if check x then (firstFailing check rest).map (· + 1) else some 0

end Sys2Proof.Machine
end

