-- ==== Sys2Proof/Machine/Timing.lean ====
section
/-! DEFINITION. The clock's units and the fixed intervals of the part (04, section 4.4). The clock counts units
of 10 ns: one uplink bit time (R138); DESIGN CHOICE (log 1). -/

namespace Sys2Proof.Machine

/-- One trunk bit time, 100 ns. -/
def bitTime : Nat := 10

/-- One microsecond. -/
def microsecond : Nat := 100

/-- One millisecond. -/
def millisecond : Nat := 100000

/-- One second. -/
def second : Nat := 100000000

/-- The turnaround (R52). -/
def turnaround : Nat := 16 * bitTime

/-- The inter-frame gap on the trunk (R49). -/
def interFrameGap : Nat := 96 * bitTime

/-- The quiet interval (R23). -/
def quietLength : Nat := 256 * bitTime

/-- The overrun limit (R90). -/
def overrunLimit : Nat := 12800 * bitTime

/-- The air time of a marker (R92). -/
def markerTime : Nat := 48 * bitTime

/-- The echo allowance (R83). -/
def echoAllowance : Nat := 8 * bitTime

/-- The carrier time of a frame of `len` bytes on the trunk (R93, R95). -/
def carrierTime (len : Nat) : Nat := (len + 8) * 8 * bitTime

/-- What a frame of `len` bytes is charged where it must fit: its carrier and the gap after it (R95). -/
def chargedTime (len : Nat) : Nat := carrierTime len + interFrameGap

/-- One period of the uplink clocks, in which four bits pass: 25 MHz (R138). -/
def uplinkPeriod : Nat := 4

/-- The time a frame of `len` bytes takes on the uplink (R143). -/
def uplinkTime (len : Nat) : Nat := (len + 8) * 8

/-- The gap after an uplink frame: 96 uplink bit times (R143). -/
def uplinkGap : Nat := 96

/-- The idle time that ends a session: 300 s (R164). -/
def sessionIdleLimit : Nat := 300 * second

/-- The time from the end of a notice's transmission to its retry: 2 s (R188). -/
def retryDelay : Nat := 2 * second

/-- From the settling of the supply to the end of a POWER reset: 10 ms (R204). -/
def powerResetTime : Nat := 10 * millisecond

/-- From the deassertion of RSTN to the end of a PIN reset, and the length of a SOFT reset: 20 µs (R204). -/
def shortResetTime : Nat := 20 * microsecond

/-- A stretch of the slow flash (R213). -/
def slowFlash : Nat := 500 * millisecond

/-- A stretch of the fast flash (R213). -/
def fastFlash : Nat := 100 * millisecond

/-- `n` divided by `d`, rounded up. -/
def ceilDiv (n d : Nat) : Nat := (n + (d - 1)) / d

end Sys2Proof.Machine
end

