-- ==== Sys2Proof/Machine/Flags.lean ====
section
/-! DEFINITION. What the part says of itself: value codes (R81, R182, R208), status codes (R178), the items of
refusal bodies (R209), the record items of answers (R211), the output pins (R82, R138, R213). -/

namespace Sys2Proof.Machine

/-! ### Value codes -/

/-- Trunk state codes (R182, R208). -/
def TrunkState.code : TrunkState → Byte
  | .stopped => 0x00
  | .starting => 0x01
  | .running => 0x02
  | .stopping => 0x03
  | .blocked => 0x04

/-- Phase codes (R208). -/
def Phase.code : Phase → Byte
  | .roundMark => 0x00
  | .calling => 0x01
  | .awaiting => 0x02
  | .receiving => 0x03
  | .continuing => 0x04
  | .closing => 0x05
  | .sending => 0x06
  | .quieting => 0x07
  | .turnaround => 0x08
  | .floor => 0x09

/-- Why the trunk state changed: the causes of TRUNK_STATE (R30). -/
inductive TrunkCause where
  | started | resumed | request | stationOverrun | lineOverrun
  deriving DecidableEq, Repr

/-- Cause codes of TRUNK_STATE (R182). -/
def TrunkCause.code : TrunkCause → Byte
  | .started => 0x01
  | .resumed => 0x02
  | .request => 0x03
  | .stationOverrun => 0x04
  | .lineOverrun => 0x05

/-- Causes of RECOVERY (R182). -/
inductive RecoveryCause where
  | stray | collision | blocked
  deriving DecidableEq, Repr

/-- Cause codes of RECOVERY (R182). -/
def RecoveryCause.code : RecoveryCause → Byte
  | .stray => 0x01
  | .collision => 0x02
  | .blocked => 0x03

/-- Station state codes (R81). -/
def StationState.code : StationState → Byte
  | .unseen => 0x00
  | .present => 0x01
  | .lapsed => 0x02
  | .muted => 0x03

/-- The code of state NONE, for a withdrawn station (R81). -/
def stationNoneCode : Byte := 0xFF

/-- Causes of STATION_STATE (R81). -/
inductive StationCause where
  | enrolled | answered | misses | strikes | overrun | manual | restored | withdrawn
  deriving DecidableEq, Repr

/-- Cause codes of STATION_STATE (R81). -/
def StationCause.code : StationCause → Byte
  | .enrolled => 0x01
  | .answered => 0x02
  | .misses => 0x03
  | .strikes => 0x04
  | .overrun => 0x05
  | .manual => 0x06
  | .restored => 0x07
  | .withdrawn => 0x08

/-- Mute cause codes in a station item; absent is 0 (R208, R211). -/
def muteCauseCode : Option MuteCause → Byte
  | some .strikes => 0x01
  | some .overrun => 0x02
  | some .manual => 0x03
  | none => 0x00

/-- Notice kind codes (R182). -/
def NoticeKind.code : NoticeKind → Byte
  | .restarted => 0x01
  | .trunkState => 0x02
  | .tableSwapped => 0x03
  | .stationState => 0x04
  | .leaseEnded => 0x05
  | .poolExhausted => 0x06
  | .recovery => 0x07

/-- Why a lease ended, in LEASE_ENDED (R182). -/
inductive LeaseEnd where
  | expired | linkDown
  deriving DecidableEq, Repr

/-- Cause codes of LEASE_ENDED (R182). -/
def LeaseEnd.code : LeaseEnd → Byte
  | .expired => 0x01
  | .linkDown => 0x02

/-- Reset cause codes (R182, R202). -/
def ResetKind.code : ResetKind → Byte
  | .power => 0x01
  | .pin => 0x02
  | .soft => 0x03

/-- Queue codes (R123). -/
def QueueName.code : QueueName → Byte
  | .dx => 0x00
  | .dn => 0x01
  | .uq => 0x02

/-- Drain codes (R2). -/
def Drain.code : Drain → Byte
  | .expFirst => 0x00
  | .normalOnly => 0x01
  | .expOnly => 0x02

/-- Direction codes (R100). -/
def Direction.code : Direction → Byte
  | .up => 0x00
  | .down => 0x01
  | .either => 0x02

/-- Action codes (R100). -/
def Action.code : Action → Byte
  | .forward => 0x00
  | .expedite => 0x01
  | .drop => 0x02
  | .agent => 0x03

/-- Frame origin codes (R208). -/
def FrameOrigin.code : FrameOrigin → Byte
  | .uplink => 0x00
  | .trunk _ => 0x01
  | .agent => 0x02

/-- The origin station byte of a frame: 0 for a DX or DN frame (R211). -/
def FrameOrigin.stationByte : FrameOrigin → Byte
  | .trunk n => byteOf n
  | _ => 0x00

/-- A flag as a byte (R210). -/
def flagByte (b : Bool) : Byte := if b then 0x01 else 0x00

/-- Link state codes (R208). -/
def linkCode (up : Bool) : Byte := flagByte up

/-! ### Status codes (R178) -/

/-- The statuses of a response (R178). -/
inductive Status where
  | ok | badRequest | unknownCode | notPermitted | notHolder | heldByOther | range | pendingLocked | notArmed
  | invalidTable | unknownStation | exists | inUse | wrongState | noTable
  deriving DecidableEq, Repr

/-- Status codes (R178). -/
def Status.code : Status → Byte
  | .ok => 0x00
  | .badRequest => 0x01
  | .unknownCode => 0x02
  | .notPermitted => 0x03
  | .notHolder => 0x04
  | .heldByOther => 0x05
  | .range => 0x06
  | .pendingLocked => 0x07
  | .notArmed => 0x08
  | .invalidTable => 0x09
  | .unknownStation => 0x0A
  | .exists => 0x0B
  | .inUse => 0x0C
  | .wrongState => 0x0D
  | .noTable => 0x0E

/-! ### RANGE items (R209) -/

/-- The item a RANGE refusal names (R209). -/
inductive RangeItem where
  | selector | first | count | length | entry
  | answerWindow | continueWindow | missLimit | strikeLimit | probePeriod
  | station | address | action | rule | default | queue | frameLimit | cellLimit | occupancy | set | clear
  | duration
  deriving DecidableEq, Repr

/-- RANGE item codes (R209). -/
def RangeItem.code : RangeItem → Byte
  | .selector => 0x01
  | .first => 0x02
  | .count => 0x03
  | .length => 0x04
  | .entry => 0x05
  | .answerWindow => 0x10
  | .continueWindow => 0x11
  | .missLimit => 0x12
  | .strikeLimit => 0x13
  | .probePeriod => 0x14
  | .station => 0x20
  | .address => 0x21
  | .action => 0x22
  | .rule => 0x30
  | .default => 0x31
  | .queue => 0x40
  | .frameLimit => 0x41
  | .cellLimit => 0x42
  | .occupancy => 0x43
  | .set => 0x50
  | .clear => 0x51
  | .duration => 0x60

/-! ### Record items of answers (R211) -/

/-- A round entry as sent (R211). -/
def RoundEntry.bytes (e : RoundEntry) : List Byte :=
  [byteOf e.station, byteOf e.credit, byteOf (e.window.getD 0), e.drain.code]

/-- A header as sent (R211). -/
def Header.bytes (h : Header) : List Byte :=
  [byteOf h.answerWindow, byteOf h.continueWindow, byteOf h.missLimit, byteOf h.strikeLimit,
   byteOf h.probePeriod] ++ bytes2 h.floor

/-- A station item (R211). Presence bits 3 to 7, for which the spec gives no value, are 0: DESIGN CHOICE, unsafe
(log 22). -/
def Station.bytes (r : Station) : List Byte :=
  [byteOf r.station, r.state.code, byteOf r.missCount, byteOf r.strikeCount, byteOf r.cleanRun,
   byteOf ((if r.lastAnswered.isSome then 1 else 0) + (if r.muteCause.isSome then 2 else 0)
     + (if r.bound.isSome then 4 else 0)),
   r.lastAnswered.getD 0, muteCauseCode r.muteCause] ++ addrBytes (r.bound.getD 0)

/-- A rule item as read (R211). -/
def Rule.bytes (index : Nat) (r : Rule) : List Byte :=
  [byteOf index, byteOf ((if r.enabled then 1 else 0) + (if r.type.isSome then 2 else 0)), r.direction.code,
   r.action.code] ++ addrBytes r.value ++ addrBytes r.mask ++ bytes2 (r.type.getD 0).toNat
   ++ [byteOf (r.origin.getD 0)] ++ bytes4 r.hits.toNat

/-- The first fourteen bytes of a notice item, common to READ_NOTICES and the NOTICE frame (R211). -/
def Notice.itemHead (n : Notice) : List Byte :=
  bytes2 n.number.toNat ++ [n.kind.code, byteOf (n.station.getD 0), n.detail.b0, n.detail.b1, n.detail.b2,
   n.detail.b3] ++ bytes2 n.occurrences ++ [n.firstRound, n.lastRound] ++ bytes2 n.sends

/-- The time left to a retry in units of 10 ms, rounded up, at least 1 (R192). -/
def retryUnits (now retry : Nat) : Nat := max 1 (ceilDiv (retry - now) (10 * millisecond))

/-- A notice item as READ_NOTICES returns it (R192, R211). -/
def Notice.bytes (now : Nat) (n : Notice) : List Byte :=
  n.itemHead ++ [flagByte n.retry.isNone, match n.retry with | none => 0 | some t => byteOf (retryUnits now t)]

/-- The body of a NOTICE frame: the item with the lost count in place of the due flag and the retry (R187,
R211). -/
def Notice.frameBody (lost : Nat) (n : Notice) : List Byte := n.itemHead ++ bytes2 lost

/-! ### Output pins (R82, R138, R213) -/

/-- TK_TXEN: asserted exactly while the head sends (R82). -/
def State.tkTxen (s : State) : Bool := s.line.tx.isSome

/-- UL_TXEN: asserted exactly while the uplink transmitter is SENDING (R138, R143). -/
def State.ulTxen (s : State) : Bool :=
  match s.uplink.tx with
  | .sending _ _ => true
  | _ => false

/-- What a data output carries at a moment, of the `items` sent one after another, each for `period`, the last one
until `ends`; nothing before and after them (log 24). -/
def itemAt {α : Type} (items : List α) (period ends moment : Nat) : Option α :=
  if moment < ends && ends ≤ moment + period * items.length then
    items[(moment + period * items.length - ends) / period]?
  else none

/-- The bytes the head puts on the line in the transmission in progress: a marker's six bytes (R92, R212), or
preamble, start delimiter and the frame of the trunk on-air slot (R93). -/
def State.trunkBytes (s : State) : List Byte :=
  match s.line.tx.map TrunkTx.content, s.queues.trunkSlot with
  | some (.marker m), _ => m.bytes
  | some .frame, some x => wireBytes x.frame.bytes
  | _, _ => []

/-- TK_TXD at a moment of the transmission in progress: one bit per BT, each byte least significant bit first (R82,
R92, R93). -/
def State.tkTxd (moment : Nat) (s : State) : Option Bool :=
  s.line.tx.bind fun t => itemAt (bitsOfBytes s.trunkBytes) bitTime t.ends moment

/-- The frame a source of the uplink transmitter holds: the first response, the copy of a notice, the frame of the
uplink on-air slot (R143, R145). -/
def State.sourceFrame (source : UplinkSource) (s : State) : List Byte :=
  match source with
  | .response => (s.agent.output.head?.map OutputEntry.bytes).getD []
  | .notice _ frame => frame
  | .forwarded => (s.queues.uplinkSlot.map Frame.bytes).getD []

/-- UL_TXD at a moment of the transmission in progress: four bits per clock period, the low four bits of each byte
first, of preamble, start delimiter and frame (R138, R143). -/
def State.ulTxd (moment : Nat) (s : State) : Option (BitVec 4) :=
  match s.uplink.tx with
  | .sending source ends => itemAt (groupsOfBytes (wireBytes (s.sourceFrame source))) uplinkPeriod ends moment
  | .idle | .gap _ => none

/-- LED_LINK: lit exactly while the link state is UP (R213). -/
def State.ledLink (s : State) : Bool := s.uplink.link

/-- LED_TRUNK (R213). -/
def State.ledTrunk (s : State) : Bool := s.led.lit

/-- The carrier level of the trunk: on exactly while a burst is held (R83). -/
def State.carrier (s : State) : Bool := s.line.burst.isSome

/-- The length of the flash stretches of a trunk state; none where LED_TRUNK does not flash (R213). -/
def flashStretch : TrunkState → Option Nat
  | .starting | .stopping => some slowFlash
  | .blocked => some fastFlash
  | .stopped | .running => none

/-- LED_TRUNK at the entry into a trunk state at the moment `now`: a flash begins lit (R213). -/
def ledAtEntry (now : Nat) (t : TrunkState) : Led :=
  { lit := t != .stopped, stretch := (flashStretch t).map (now + ·) }

end Sys2Proof.Machine
end

