-- ==== Sys2Proof/Machine/Ops.lean ====
section
/-! DEFINITION. The operations that blocks share: the clock, changes of one block, the Notice List's raise, the
swap, the Queue Manager's enqueue, take, release and return. -/

namespace Sys2Proof.Machine

/-! ### The clock (log 1) -/

/-- `dt` passes before an event from outside. -/
def State.pass (dt : Nat) (s : State) : State := { s with now := s.now + dt }

/-- The end of an interval at the moment `t`: the clock stands there, or where it already is if the end falls
late (log 2). -/
def State.reach (t : Nat) (s : State) : State := { s with now := max s.now t }

/-! ### Changes of one block -/

/-- Change `store` alone. -/
def State.onStore (f : Store → Store) (s : State) : State := { s with store := f s.store }

/-- Change `engine` alone. -/
def State.onEngine (f : Engine → Engine) (s : State) : State := { s with engine := f s.engine }

/-- Change `line` alone. -/
def State.onLine (f : Line → Line) (s : State) : State := { s with line := f s.line }

/-- Change `trunkCounters` alone. -/
def State.onTrunkCounters (f : TrunkCounters → TrunkCounters) (s : State) : State := { s with trunkCounters := f s.trunkCounters }

/-- Change `stations` alone. -/
def State.onStations (f : List Station → List Station) (s : State) : State := { s with stations := f s.stations }

/-- Change `admission` alone. -/
def State.onAdmission (f : Admission → Admission) (s : State) : State := { s with admission := f s.admission }

/-- Change `queues` alone. -/
def State.onQueues (f : Queues → Queues) (s : State) : State := { s with queues := f s.queues }

/-- Change `uplink` alone. -/
def State.onUplink (f : Uplink → Uplink) (s : State) : State := { s with uplink := f s.uplink }

/-- Change `agent` alone. -/
def State.onAgent (f : Agent → Agent) (s : State) : State := { s with agent := f s.agent }

/-- Change `notices` alone. -/
def State.onNotices (f : NoticeList → NoticeList) (s : State) : State := { s with notices := f s.notices }

/-- Change `stamps` alone. -/
def State.onStamps (f : Stamps → Stamps) (s : State) : State := { s with stamps := f s.stamps }

/-- Change `identity` alone. -/
def State.onIdentity (f : Identity → Identity) (s : State) : State := { s with identity := f s.identity }

/-- Change `pins` alone. -/
def State.onPins (f : Pins → Pins) (s : State) : State := { s with pins := f s.pins }

/-- Change `led` alone. -/
def State.onLed (f : Led → Led) (s : State) : State := { s with led := f s.led }

/-- A count that stays at its limit once there. -/
def saturate (limit n : Nat) : Nat := min limit n

/-! ### The Notice List (R180 to R186) -/

/-- Notice number `big` covers number `n` (R180): `(big − n) mod 65536 < 32768`. -/
def covers (big n : BitVec 16) : Bool := (big - n).toNat < 32768

/-- The key of a record is its kind with its station (R181). -/
def Notice.hasKey (kind : NoticeKind) (station : Option Nat) (r : Notice) : Bool :=
  r.kind == kind && r.station == station

/-- Before a number is assigned, a front record 32768 or more behind it is renewed, and so on with the record
then in front (R185); `fuel` bounds the renewals, and the length of the list is enough. -/
def renewFront : Nat → NoticeList → NoticeList
  | 0, l => l
  | fuel + 1, l =>
    match l.records with
    | [] => l
    | r :: rest =>
      if covers l.next r.number then l
      else renewFront fuel
        { l with
          records := rest ++ [{ r with number := l.next, sends := 0, retry := none }],
          next := l.next + 1,
          counters := { l.counters with renewed := l.counters.renewed + 1 } }

/-- A full list gives up its front record, and the lost count advances (R184). -/
def NoticeList.makeRoom (l : NoticeList) : NoticeList :=
  if l.records.length < Config.noticePlaces then l
  else { l with records := l.records.tail, lost := saturate 65535 (l.lost + 1),
                counters := { l.counters with overflowed := l.counters.overflowed + 1 } }

/-- The renewals that come before an assignment (R185). -/
def NoticeList.renewed (l : NoticeList) : NoticeList := renewFront l.records.length l

/-- A raise with a record of its key present: the record is renumbered, moved to the tail and made due, with
the new detail and one occurrence more (R183). -/
def NoticeList.coalesce (round : BitVec 8) (r : Notice) (detail : Detail) (l : NoticeList) : NoticeList :=
  { l with
    records := l.records.filter (fun x => !x.hasKey r.kind r.station)
      ++ [{ r with number := l.next, detail := detail, lastRound := round, sends := 0, retry := none,
                   occurrences := saturate 65535 (r.occurrences + 1) }],
    next := l.next + 1,
    counters := { l.counters with coalesced := l.counters.coalesced + 1 } }

/-- A raise without a record of its key: a new record at the tail (R183). -/
def NoticeList.append (round : BitVec 8) (kind : NoticeKind) (station : Option Nat) (detail : Detail)
    (l : NoticeList) : NoticeList :=
  { l with
    records := l.records ++ [{ number := l.next, kind := kind, station := station, detail := detail,
                               firstRound := round, lastRound := round }],
    next := l.next + 1 }

/-- A raise (R183 to R185): it coalesces, or appends after an overflow if the list is full. -/
def NoticeList.raise (round : BitVec 8) (kind : NoticeKind) (station : Option Nat) (detail : Detail)
    (l : NoticeList) : NoticeList :=
  let l := { l with counters := { l.counters with raised := l.counters.raised + 1 } }
  match l.records.find? (Notice.hasKey kind station) with
  | some r => l.renewed.coalesce round r detail
  | none => l.makeRoom.renewed.append round kind station detail

/-- A block raises a notice as part of its event (R183). -/
def State.raise (kind : NoticeKind) (station : Option Nat) (detail : Detail) (s : State) : State :=
  s.onNotices (NoticeList.raise s.engine.round kind station detail)

/-- TRUNK_STATE: the new state, its cause, the round number and the generation (R182). -/
def State.raiseTrunkState (cause : TrunkCause) (s : State) : State :=
  s.raise .trunkState none ⟨s.engine.trunk.code, cause.code, s.engine.round, s.store.generation⟩

/-- RECOVERY: its cause and the entry index as it stood when the event was taken, 0xFF if absent (R182). -/
def State.raiseRecovery (station : Option Nat) (cause : RecoveryCause) (index : Option Nat) (s : State) :
    State :=
  s.raise .recovery station ⟨cause.code, byteOf (index.getD 0xFF), 0, 0⟩

/-- STATION_STATE of a record: its state, the cause, its miss count and strike count (R81). -/
def State.raiseStation (r : Station) (cause : StationCause) (s : State) : State :=
  s.raise .stationState (some r.station)
    ⟨r.state.code, cause.code, byteOf r.missCount, byteOf r.strikeCount⟩

/-- LEASE_ENDED: its cause and the holder's tag (R182). -/
def State.raiseLeaseEnded (cause : LeaseEnd) (tag : BitVec 16) (s : State) : State :=
  s.raise .leaseEnded none ⟨cause.code, 0, tag.extractLsb' 8 8, tag.extractLsb' 0 8⟩

/-! ### Trunk state and its indicator (R22, R213) -/

/-- The trunk enters a state, and LED_TRUNK with it. -/
def State.enterTrunk (t : TrunkState) (s : State) : State :=
  { s with engine := { s.engine with trunk := t }, led := ledAtEntry s.now t }

/-! ### The swap (R15, R16, R20) -/

/-- A swap (R16): ACTIVE takes PENDING, the generation advances, PENDING stays as an unarmed copy. -/
def Store.swap (st : Store) : Store :=
  { active := st.pending, pending := st.pending, generation := st.generation + 1, armed := false }

/-- A swap with its TABLE_SWAPPED notice (R16). -/
def State.swap (s : State) : State :=
  let s := s.onStore Store.swap
  s.raise .tableSwapped none ⟨s.store.generation, byteOf s.store.active.entries.length, 0, 0⟩

/-- A swap point: the swap is taken if PENDING is armed (R15). -/
def State.swapPoint (s : State) : State := if s.store.armed then s.swap else s

/-- The end of a lease at the Store: an unarmed PENDING reverts to a copy of ACTIVE (R20). -/
def Store.revert (st : Store) : Store := if st.armed then st else { st with pending := st.active }

/-! ### Station records -/

/-- The record of a station (R60). -/
def State.station? (n : Nat) (s : State) : Option Station := s.stations.find? (·.station == n)

/-- Change the record of a station, if it has one. -/
def State.onStation (n : Nat) (f : Station → Station) (s : State) : State :=
  s.onStations (List.map fun r => if r.station == n then f r else r)

/-- Change the counters of a station, if it has a record. -/
def State.countStation (n : Nat) (f : StationCounters → StationCounters) (s : State) : State :=
  s.onStation n fun r => { r with counters := f r.counters }

/-! ### The pool and the queues (R118 to R132) -/

/-- The length L of a held frame, FCS included (R119). -/
def Frame.length (f : Frame) : Nat := f.bytes.length

/-- The cells of a frame of `len` bytes: `len / 128` rounded up (R118). -/
def cellsOf (len : Nat) : Nat := ceilDiv len 128

/-- The cells of a held frame (R119). -/
def Frame.cells (f : Frame) : Nat := cellsOf f.length

/-- The cells of a list of frames. -/
def cellSum (l : List Frame) : Nat := (l.map Frame.cells).sum

/-- The frame count of a queue (R120). -/
def Queue.frameCount (q : Queue) : Nat := q.frames.length

/-- The cell count of a queue (R120). -/
def Queue.cellCount (q : Queue) : Nat := cellSum q.frames

/-- One of the three queues. -/
def Queues.get (q : QueueName) (qs : Queues) : Queue :=
  match q with
  | .dx => qs.dx
  | .dn => qs.dn
  | .uq => qs.uq

/-- Change one of the three queues. -/
def Queues.on (q : QueueName) (f : Queue → Queue) (qs : Queues) : Queues :=
  match q with
  | .dx => { qs with dx := f qs.dx }
  | .dn => { qs with dn := f qs.dn }
  | .uq => { qs with uq := f qs.uq }

/-- Change a queue's counters. -/
def Queue.count (f : QueueCounters → QueueCounters) (q : Queue) : Queue := { q with counters := f q.counters }

/-- Whether a frame stands in UQ's expedited band. -/
def Frame.isExpedited (f : Frame) : Bool := f.band == some .expedited

/-- The place a frame joins a list: an expedited frame behind the last expedited one, every other frame at the
tail (R120). -/
def joinFrames (f : Frame) (l : List Frame) : List Frame :=
  if f.isExpedited then l.takeWhile Frame.isExpedited ++ f :: l.dropWhile Frame.isExpedited else l ++ [f]

/-- Why an enqueue drops a frame, in the order of the checks (R124). -/
inductive DropReason where
  | linkDown | frameLimit | cellLimit | pool
  deriving DecidableEq, Repr

/-- The first check of R124 that a frame of `c` cells bound for `q` fails. -/
def enqueueFails (q : QueueName) (c : Nat) (s : State) : Option DropReason :=
  let queue := s.queues.get q
  if q == .uq && !s.uplink.link then some .linkDown
  else if queue.frameLimit < queue.frameCount + 1 then some .frameLimit
  else if queue.cellLimit < queue.cellCount + c then some .cellLimit
  else if s.queues.free < c then some .pool
  else none

/-- The drop counter of a reason advances (R125). -/
def QueueCounters.drop (reason : DropReason) (c : QueueCounters) : QueueCounters :=
  match reason with
  | .linkDown => { c with linkDown := c.linkDown + 1 }
  | .frameLimit => { c with frameLimit := c.frameLimit + 1 }
  | .cellLimit => { c with cellLimit := c.cellLimit + 1 }
  | .pool => { c with pool := c.pool + 1 }

/-- A frame dropped at enqueue (R125); a POOL drop raises POOL_EXHAUSTED. -/
def State.dropAtEnqueue (q : QueueName) (c : Nat) (reason : DropReason) (s : State) : State :=
  let s' := s.onQueues (Queues.on q (Queue.count (QueueCounters.drop reason)))
  if reason == .pool then
    s'.raise .poolExhausted none
      ⟨q.code, byteOf c, byteOf (s.queues.free / 256), byteOf s.queues.free⟩
  else s'

/-- An admitted frame takes its cells and joins its queue (R124). -/
def Queues.join (q : QueueName) (f : Frame) (qs : Queues) : Queues :=
  let qs := qs.on q fun queue =>
    { queue with frames := joinFrames f queue.frames,
                 counters := { queue.counters with enqueued := queue.counters.enqueued + 1 } }
  { qs with free := qs.free - f.cells }

/-- The engine takes the front frame of DX or DN into the trunk on-air slot (R129); the slot holds one frame
(R121), so nothing is taken into an occupied one. -/
def Queues.takeDown (q : QueueName) (qs : Queues) : Queues :=
  match qs.trunkSlot, (qs.get q).frames with
  | none, f :: rest => { qs.on q (fun queue => { queue with frames := rest }) with trunkSlot := some ⟨f, q⟩ }
  | _, _ => qs

/-- The arbiter takes the front frame of UQ into the uplink on-air slot, if that is empty (R121, R130). -/
def Queues.takeUp (qs : Queues) : Queues :=
  match qs.uplinkSlot, qs.uq.frames with
  | none, f :: rest => { qs with uq := { qs.uq with frames := rest }, uplinkSlot := some f }
  | _, _ => qs

/-- The frame of the trunk on-air slot leaves it and its cells return to the pool (R131); `count` advances the
counter of its queue. -/
def Queues.releaseTrunk (count : QueueCounters → QueueCounters) (qs : Queues) : Queues :=
  match qs.trunkSlot with
  | none => qs
  | some slot =>
    { qs.on slot.queue (Queue.count count) with trunkSlot := none, free := qs.free + slot.frame.cells }

/-- The frame of the uplink on-air slot leaves it and its cells return to the pool (R131, R133). -/
def Queues.releaseUplink (count : QueueCounters → QueueCounters) (qs : Queues) : Queues :=
  match qs.uplinkSlot with
  | none => qs
  | some f =>
    { qs with uq := qs.uq.count count, uplinkSlot := none, free := qs.free + f.cells }

/-- A transmission ended: the transmitted counter advances (R131). -/
def QueueCounters.transmit (c : QueueCounters) : QueueCounters := { c with transmitted := c.transmitted + 1 }

/-- A frame dropped after an abort (R132). -/
def QueueCounters.dropAborted (c : QueueCounters) : QueueCounters := { c with abortDrop := c.abortDrop + 1 }

/-- Whether the frame of a slot may return to its queue: within both limits with the frame counted (R132). -/
def Queue.hasPlaceFor (f : Frame) (q : Queue) : Bool :=
  q.frameCount + 1 ≤ q.frameLimit && q.cellCount + f.cells ≤ q.cellLimit

/-- A collision cut the frame of the trunk on-air slot: its abort count advances, and it returns to the front of
its queue, or is dropped at the second abort or for want of a place (R51, R132). -/
def Queues.abort (qs : Queues) : Queues :=
  match qs.trunkSlot with
  | none => qs
  | some slot =>
    let aborts := slot.frame.abortCount.getD 0 + 1
    let f := { slot.frame with abortCount := some aborts }
    if aborts < 2 && (qs.get slot.queue).hasPlaceFor f then
      { qs.on slot.queue (fun queue =>
          { queue with frames := f :: queue.frames,
                       counters := { queue.counters with returned := queue.counters.returned + 1 } })
        with trunkSlot := none }
    else qs.releaseTrunk QueueCounters.dropAborted

/-- Every frame of a queue is removed, its cells return to the pool, and the flushed counter advances by the
number of frames (R133, R136). -/
def Queues.flush (q : QueueName) (qs : Queues) : Queues :=
  let queue := qs.get q
  { qs.on q (fun queue =>
      { queue with frames := [],
                   counters := { queue.counters with
                     flushed := queue.counters.flushed + BitVec.ofNat 32 queue.frameCount } })
    with free := qs.free + queue.cellCount }

/-! ### Answers (R154, R178) -/

/-- What a block answers to a request: a status, the body of the response, and the part after it. -/
structure Answer where
  status : Status
  body : List Byte
  state : State

/-- An OK answer. -/
def okWith (body : List Byte) (s : State) : Answer := ⟨.ok, body, s⟩

/-- A refusal: it changes nothing (R178). -/
def refuse (status : Status) (body : List Byte) (s : State) : Answer := ⟨status, body, s⟩

/-- A RANGE refusal with its item and index byte, 0xFF where the item has none (R209). -/
def refuseRange (item : RangeItem) (index : Byte) (s : State) : Answer := refuse .range [item.code, index] s

end Sys2Proof.Machine
end

