-- ==== Sys2Proof/Machine/HeadFrames.lean ====
section
/-! DEFINITION. The head's sending on the trunk (R91 to R93), the take of head frames (R48, R49) and the floor
fill (R58); the enqueue with what it tells the engine (R124, R125, R128). -/

namespace Sys2Proof.Machine

/-- The head begins to send, at the moment of the event itself; an echo allowance that ran is over (R91). For an event
not tied to TK_CLK that moment need not be an edge: DESIGN CHOICE, unsafe (log 25). -/
def State.startTx (content : TrunkContent) (length : Nat) (s : State) : State :=
  s.onLine fun l => { l with tx := some ⟨content, s.now + length⟩, echo := none }

/-- The head begins to send a marker (R92). -/
def State.sendMarker (m : Marker) (s : State) : State := s.startTx (.marker m) markerTime

/-- The head's sending stops: TK_TXEN is deasserted and the echo allowance runs; `cut` says that a COLLISION
cut it (R83, R84). It stops at the moment of the event itself, also where that is no edge of TK_CLK: DESIGN CHOICE,
unsafe (log 25). -/
def State.stopTx (cut : Bool) (s : State) : State :=
  s.onLine fun l => { l with tx := none, echo := some { ends := s.now + echoAllowance, cut := cut } }

/-- The queue a head entry takes from, by its drain: none if every selected queue is empty (R48). -/
def drainQueue (d : Drain) (qs : Queues) : Option QueueName :=
  let dx := if qs.dx.frames.isEmpty then none else some .dx
  let dn := if qs.dn.frames.isEmpty then none else some .dn
  match d with
  | .expFirst => dx.orElse fun _ => dn
  | .normalOnly => dn
  | .expOnly => dx

/-- The front frame of DX or DN goes into the trunk on-air slot and on air (R49, R129, R93). -/
def State.takeFrame (q : QueueName) (s : State) : State :=
  match s.queues.trunkSlot, (s.queues.get q).frames with
  | none, f :: _ => (s.onQueues (Queues.takeDown q)).startTx .frame (carrierTime f.length)
  | _, _ => s

/-- A frame of a head entry is taken; it consumes a unit of credit (R49). -/
def State.takeHeadFrame (q : QueueName) (s : State) : State :=
  (s.onEngine fun e => { e with credit := e.credit - 1 }).takeFrame q

/-- The moment the floor of the current round expires; none for a floor of 0 (R57, R29). -/
def floorExpiry (s : State) : Option Nat :=
  if s.store.active.header.floor == 0 then none
  else s.engine.roundStart.map (· + s.store.active.header.floor * microsecond)

/-- Whether a frame and the gap after it end no later than the floor expiry (R58). -/
def fitsFloor (len : Nat) (s : State) : Bool :=
  match floorExpiry s with
  | none => false
  | some t => s.now + chargedTime len ≤ t

/-- Whether the floor fill may consider a frame: FLOOR in RUNNING, not suspended, nothing on air or in its gap
(R58). -/
def fillIdle (s : State) : Bool :=
  s.engine.trunk == .running && s.engine.phase == some .floor && !s.engine.fillSuspended
    && s.line.tx.isNone && s.engine.gap.isNone

/-- The engine considers the front frame of DX for the floor fill (R58). -/
def State.considerFill (s : State) : State :=
  if fillIdle s then
    match s.queues.dx.frames with
    | [] => s
    | f :: _ => if fitsFloor f.length s then s.takeFrame .dx else s
  else s

/-- An enqueue (R124): the frame joins its queue, and one that joins an empty DX is considered for the fill
(R128); or it is dropped at the first failing check (R125). -/
def State.enqueue (q : QueueName) (f : Frame) (s : State) : State :=
  match enqueueFails q f.cells s with
  | some reason => s.dropAtEnqueue q f.cells reason
  | none =>
    let s' := s.onQueues (Queues.join q f)
    if q == .dx && s.queues.dx.frames.isEmpty then s'.considerFill else s'

end Sys2Proof.Machine
end

