-- ==== Sys2Proof/Machine/Transmit.lean ====
section
/-! DEFINITION. The uplink transmit arbiter (R144, R145), the NOTICE frame (R187), and how an event is taken:
outside a reset, with the arbiter acting at its end. -/

namespace Sys2Proof.Machine

/-- Where notices go: the lease holder while a lease is held, the management group address otherwise (R187). -/
def State.noticeAddress (s : State) : Addr :=
  match s.agent.lease with
  | some l => l.address
  | none => Config.groupAddress

/-- The NOTICE frame built from a record as it stands (R187). -/
def State.noticeFrame (n : Notice) (s : State) : List Byte :=
  buildFrame s.noticeAddress s.identity.factory kindNotice 0 n.number n.kind.code 0
    (n.frameBody s.notices.lost)

/-- The oldest due record: the due record nearest the front (R187). -/
def NoticeList.oldestDue (l : NoticeList) : Option Notice := l.records.find? (·.retry.isNone)

/-- The transmitter enters SENDING with a frame of `len` bytes (R143). -/
def State.startUplink (source : UplinkSource) (len : Nat) (s : State) : State :=
  s.onUplink fun u => { u with tx := .sending source (s.now + uplinkTime len) }

/-- The arbiter's choice: the first response, else the oldest due notice, else the front of UQ (R144). -/
def State.arbiterTake (s : State) : State :=
  match s.agent.output with
  | r :: _ => s.startUplink .response r.bytes.length
  | [] =>
    match s.notices.oldestDue with
    | some n => s.startUplink (.notice n.number (s.noticeFrame n)) (s.noticeFrame n).length
    | none =>
      match s.queues.uplinkSlot, s.queues.uq.frames with
      | none, f :: _ => (s.onQueues Queues.takeUp).startUplink .forwarded f.length
      | _, _ => s

/-- The arbiter acts while the transmitter is IDLE and the link state is UP (R144), and not in a reset (R204). -/
def State.arbitrate (s : State) : State :=
  if s.resetRun.isNone && s.uplink.link && s.uplink.tx == .idle then s.arbiterTake else s

/-- An event is taken: nothing while a reset is in progress (R204), otherwise its effect, and then the arbiter
(R144: at each event that makes something available to send; log 17). -/
def State.event (f : State → State) (s : State) : State :=
  match s.resetRun with
  | some _ => s
  | none => (f s).arbitrate

/-- The outcome of a command that is an event: always a next state. -/
def takeEvent (f : State → State) (s : State) : Host.Outcome State Fault Refusal := .next (s.event f)

end Sys2Proof.Machine
end

