-- ==== Sys2Proof/Machine/Agent.lean ====
section
/-! DEFINITION. The Management Agent: the take of a request and its steps (R157, R158), sessions and replay
(R160 to R163), routing (R165, R166), permissions (R167, R168), the write lease (R169 to R174), and the
requests CLAIM, RELEASE and RESET_DEVICE. -/

namespace Sys2Proof.Machine

/-! ### Sessions (R160 to R162) -/

/-- Whether a record has a key (R160). -/
def Session.hasKey (address : Addr) (tag : BitVec 16) (x : Session) : Bool := x.address == address && x.tag == tag

/-- Whether the lease is held by the session of a key (R169). -/
def Agent.holds (address : Addr) (tag : BitVec 16) (a : Agent) : Bool :=
  match a.lease with
  | some l => l.address == address && l.tag == tag
  | none => false

/-- The idle time of a session in whole seconds (R162). -/
def Session.idleSeconds (now : Nat) (x : Session) : Nat := (now - x.lastTake) / second

/-- Of two records, the one with the greater idle time; the earlier created one if they are the same (R162). -/
def longerIdle (now : Nat) (best : Option Session) (x : Session) : Option Session :=
  match best with
  | none => some x
  | some b => if b.idleSeconds now < x.idleSeconds now then some x else some b

/-- The record to evict: of those that do not hold the lease, the one idle longest (R162). -/
def Agent.victim (now : Nat) (a : Agent) : Option Session :=
  (a.sessions.filter fun x => !a.holds x.address x.tag).foldl (longerIdle now) none

/-- A place is made in a full session table (R162). -/
def Agent.makeRoom (now : Nat) (a : Agent) : Agent :=
  if a.sessions.length < Config.sessionPlaces then a
  else match a.victim now with
    | none => a
    | some v =>
      { a with sessions := a.sessions.filter fun x => !x.hasKey v.address v.tag,
               counters := { a.counters with sessionsEvicted := a.counters.sessionsEvicted + 1 } }

/-- A new record at the end of the table (R161). -/
def Agent.openSession (now : Nat) (q : Request) (a : Agent) : Agent :=
  let a := a.makeRoom now
  { a with sessions := a.sessions ++ [{ address := q.src, tag := q.tag, origin := q.origin, lastTake := now }] }

/-- Change the record of a key. -/
def Agent.onSession (address : Addr) (tag : BitVec 16) (f : Session → Session) (a : Agent) : Agent :=
  { a with sessions := a.sessions.map fun x => if x.hasKey address tag then f x else x }

/-- The lease is restarted at step 3 of every request of the holder's session (R171). -/
def Agent.renewLease (now : Nat) (address : Addr) (tag : BitVec 16) (a : Agent) : Agent :=
  if a.holds address tag then
    { a with lease := a.lease.map fun l => { l with expiry := now + l.duration * second } }
  else a

/-- Step 3 for a request whose session is found: idle time 0, lease renewed if the session holds it (R161,
R171). -/
def Agent.touch (now : Nat) (q : Request) (a : Agent) : Agent :=
  (a.onSession q.src q.tag fun x => { x with lastTake := now }).renewLease now q.src q.tag

/-! ### Routing (R154, R165, R166) -/

/-- The response frame to a request (R154). -/
def State.responseFrame (q : Request) (status : Status) (body : List Byte) (s : State) : List Byte :=
  buildFrame q.src s.identity.factory kindResponse q.tag q.seq q.code status.code body

/-- An agent response as a DX frame (R119, R166). -/
def agentFrame (bytes : List Byte) : Frame :=
  { bytes := bytes, origin := .agent, band := none, abortCount := some 0 }

/-- A counter of the AGENT set advances. -/
def State.countAgent (f : AgentCounters → AgentCounters) (s : State) : State :=
  s.onAgent fun a => { a with counters := f a.counters }

/-- A response goes back by the way the request came: to the output list, or to DX and dropped if DX refuses it
(R165, R166). -/
def State.route (origin : Port) (bytes : List Byte) (answersReset : Bool) (s : State) : State :=
  match origin with
  | .uplink => s.onAgent fun a => { a with output := a.output ++ [⟨bytes, answersReset⟩] }
  | .trunk _ =>
    let f := agentFrame bytes
    let s' := s.enqueue .dx f
    if (enqueueFails .dx f.cells s).isSome then
      s'.countAgent fun c => { c with responsesDropped := c.responsesDropped + 1 }
    else s'

/-! ### Permissions (R167, R168) -/

/-- The permission classes (R167). -/
inductive PermissionClass where
  | read | lease | ack | write
  deriving DecidableEq, Repr

/-- Step 7: the refusal of a request by its class, if any (R168). -/
def permissionRefusal (k : PermissionClass) (q : Request) (a : Agent) : Option Status :=
  match k with
  | .read => none
  | .lease => if q.origin == .uplink then none else some .notPermitted
  | .ack =>
    if q.origin != .uplink then some .notPermitted
    else if a.lease.isSome && !a.holds q.src q.tag then some .notHolder else none
  | .write =>
    if q.origin != .uplink then some .notPermitted
    else if !a.holds q.src q.tag then some .notHolder else none

/-! ### The take (R157 to R159, R163) -/

/-- What the agent needs to know of a request row: which frames are its requests, the class of a request, the
body sizes it fits, and its block's answer. -/
structure RequestRow where
  /-- Whether a frame with a request code is a request of this row. -/
  names : List Byte → Bool
  /-- The permission class (R167). -/
  permission : PermissionClass
  /-- Whether a body fits the request (R210). -/
  fits : List Byte → Bool
  /-- The owning block's checks and effect (step 8). -/
  answer : Request → State → Answer
  /-- RESET_DEVICE alone: the OK answer leaves a SOFT reset waiting (R175). -/
  resets : Bool := false

/-- A row takes the frame of its request; a frame whose code names no request is taken under every row (R158,
log 3). -/
def RequestRow.takes (row : RequestRow) (frame : List Byte) : Bool :=
  !requestCodes.contains (envCode frame) || row.names frame

/-- The conditions of R157, with the head of the input list being a request of the row. -/
def State.takeable (row : RequestRow) (s : State) : Option InputEntry :=
  match s.agent.input with
  | [] => none
  | e :: _ =>
    if s.agent.output.length < Config.outputPlaces && !s.agent.softReset && row.takes e.bytes then some e
    else none

/-- The take removes the head entry and advances requests taken (R157). -/
def State.removeTaken (s : State) : State :=
  s.onAgent fun a => { a with input := a.input.tail,
                              counters := { a.counters with requestsTaken := a.counters.requestsTaken + 1 } }

/-- Whether step 5 passes (R158): the body length is at most 480 and no more than the bytes present, and at
least 3 for READ_COUNTERS. -/
def bodyLengthFits (frame : List Byte) : Bool :=
  envBodyLength frame ≤ 480 && envBodyLength frame ≤ bodyPresent frame
    && (envCode frame != codeReadCounters || 3 ≤ envBodyLength frame)

/-- Steps 5 to 8 (R158). -/
def RequestRow.judge (row : RequestRow) (frame : List Byte) (q : Request) (s : State) : Answer :=
  if !bodyLengthFits frame then refuse .badRequest [] s
  else if !requestCodes.contains q.code then refuse .unknownCode [] s
  else match permissionRefusal row.permission q s.agent with
    | some status => refuse status [] s
    | none => if row.fits q.body then row.answer q s else refuse .badRequest [] s

/-- An answer other than OK advances refused (R158, R179). -/
def State.countRefused (status : Status) (s : State) : State :=
  if status == .ok then s else s.countAgent fun c => { c with refused := c.refused + 1 }

/-- The answer of steps 5 to 8 is stored in the session and routed (R163). -/
def State.storeAndRoute (row : RequestRow) (q : Request) (a : Answer) : State :=
  let bytes := a.state.responseFrame q a.status a.body
  let s := a.state.countRefused a.status
  let s := s.onAgent (Agent.onSession q.src q.tag fun x => { x with last := some (q.seq, bytes) })
  let resets := row.resets && a.status == .ok
  (s.onAgent fun g => { g with softReset := g.softReset || resets }).route q.origin bytes resets

/-- Steps 4 to 8, for a request whose session is found or created (R163). -/
def State.stepsFour (row : RequestRow) (frame : List Byte) (q : Request) (x : Session) (s : State) : State :=
  match x.last with
  | some (seq, stored) =>
    if seq == q.seq then
      (s.countAgent fun c => { c with replays := c.replays + 1 }).route x.origin stored false
    else State.storeAndRoute row q (row.judge frame q s)
  | none => State.storeAndRoute row q (row.judge frame q s)

/-- A refusal that is not stored, of steps 2 and 3 (R159, R161). -/
def State.refuseUnstored (status : Status) (q : Request) (s : State) : State :=
  (s.countRefused status).route q.origin (s.responseFrame q status []) false

/-- Step 3: the session is found or created, with a matching origin (R161). -/
def State.stepThree (row : RequestRow) (frame : List Byte) (q : Request) (s : State) : State :=
  match s.agent.sessions.find? (Session.hasKey q.src q.tag) with
  | none =>
    let s := s.onAgent (Agent.openSession s.now q)
    s.stepsFour row frame q { address := q.src, tag := q.tag, origin := q.origin, lastTake := s.now }
  | some x =>
    if x.origin == q.origin then (s.onAgent (Agent.touch s.now q)).stepsFour row frame q x
    else s.refuseUnstored .notPermitted q

/-- The steps of R158 for the entry taken. -/
def State.carry (row : RequestRow) (e : InputEntry) (s : State) : State :=
  let q := e.request
  if envVersion e.bytes != 1 || envKind e.bytes != kindRequest then
    s.countAgent fun c => { c with envelopeDiscards := c.envelopeDiscards + 1 }
  else if q.tag == 0 then s.refuseUnstored .badRequest q
  else s.stepThree row e.bytes q

/-- The agent's take of the request at the head of its input list, as one event (R157); no take where the
conditions do not hold (log 3). -/
def State.takeRequest (row : RequestRow) (s : State) : State :=
  match s.takeable row with
  | none => s
  | some e => s.removeTaken.carry row e

/-- The outcome of a request command. -/
def takeRequestEvent (row : RequestRow) (dt : Nat) (s : State) : Host.Outcome State Fault Refusal :=
  takeEvent (State.takeRequest row) (s.pass dt)

/-- A frame's code is a row's code. -/
def hasCode (code : Byte) (frame : List Byte) : Bool := envCode frame == code

/-- A body of exactly `n` bytes. -/
def hasSize (n : Nat) (body : List Byte) : Bool := body.length == n

/-! ### The write lease (R169 to R174) -/

/-- The remaining seconds: whole seconds until the expiry, rounded up, from 1 (R169, R173). -/
def Lease.remaining (now : Nat) (l : Lease) : Nat := max 1 (ceilDiv (l.expiry - now) second)

/-- The lease ends: no holder, and an unarmed PENDING reverts (R20). -/
def State.endLease (s : State) : State :=
  (s.onAgent fun a => { a with lease := none }).onStore Store.revert

/-- CLAIM with its duration granted or renewed (R170). -/
def grantLease (resultCode : Byte) (duration : Nat) (q : Request) (s : State) : Answer :=
  let l : Lease := { address := q.src, tag := q.tag, duration := duration,
                     expiry := s.now + duration * second }
  okWith [resultCode, byteOf duration, byteOf (l.remaining s.now)]
    (s.onAgent fun a => { a with lease := some l })

/-- CLAIM (R170). -/
def answerClaim (q : Request) (s : State) : Answer :=
  let duration := numAt q.body 0
  if duration == 0 then refuseRange .duration 0xFF s
  else match s.agent.lease with
    | none => grantLease 0x01 duration q s
    | some l =>
      if s.agent.holds q.src q.tag then grantLease 0x02 duration q s
      else refuse .heldByOther
        (addrBytes l.address ++ bytes2 l.tag.toNat ++ [byteOf (l.remaining s.now)]) s

/-- RELEASE (R174). -/
def answerRelease (q : Request) (s : State) : Answer :=
  if s.agent.holds q.src q.tag then okWith [] s.endLease else refuse .notHolder [] s

/-- RESET_DEVICE (R175): OK; the SOFT reset then waits. -/
def answerResetDevice (_q : Request) (s : State) : Answer := okWith [] s

/-- The row of CLAIM. -/
def rowClaim : RequestRow := { names := hasCode 0x02, permission := .lease, fits := hasSize 1, answer := answerClaim }

/-- The row of RELEASE. -/
def rowRelease : RequestRow :=
  { names := hasCode 0x03, permission := .lease, fits := hasSize 0, answer := answerRelease }

/-- The row of RESET_DEVICE. -/
def rowResetDevice : RequestRow :=
  { names := hasCode 0x04, permission := .write, fits := hasSize 0, answer := answerResetDevice, resets := true }

/-- CLAIM (R170). -/
def execClaim (dt : Nat) (s : State) : Host.Outcome State Fault Refusal := takeRequestEvent rowClaim dt s

/-- RELEASE (R174). -/
def execRelease (dt : Nat) (s : State) : Host.Outcome State Fault Refusal := takeRequestEvent rowRelease dt s

/-- RESET_DEVICE (R175). -/
def execResetDevice (dt : Nat) (s : State) : Host.Outcome State Fault Refusal :=
  takeRequestEvent rowResetDevice dt s

/-! ### Lease expiry and session idle end (R164, R172) -/

/-- The lease ends at its expiry time, with a LEASE_ENDED notice (R172). -/
def State.expireLease (s : State) : State :=
  match s.agent.lease with
  | none => s
  | some l => ((s.reach l.expiry).endLease).raiseLeaseEnded .expired l.tag

/-- LEASE_EXPIRY (R172). -/
def execLeaseExpiry (s : State) : Host.Outcome State Fault Refusal := takeEvent State.expireLease s

/-- A session record whose idle time reaches 300 s is removed; the holder's cannot reach it (R164). -/
def State.endIdleSession (address : Addr) (tag : BitVec 16) (s : State) : State :=
  match s.agent.sessions.find? (Session.hasKey address tag) with
  | none => s
  | some x =>
    if s.agent.holds address tag then s
    else (s.reach (x.lastTake + sessionIdleLimit)).onAgent fun a =>
      { a with sessions := a.sessions.filter fun y => !y.hasKey address tag }

/-- SESSION_IDLE_END (R164). -/
def execSessionIdleEnd (address : Addr) (tag : BitVec 16) (s : State) : Host.Outcome State Fault Refusal :=
  takeEvent (State.endIdleSession address tag) s

end Sys2Proof.Machine
end

