-- ==== Sys2Proof/Machine/Stations.lean ====
section
/-! DEFINITION. The requests on station records (R75 to R80). -/

namespace Sys2Proof.Machine

/-- A station number is 1 to 30 (R60). -/
def stationInRange (n : Nat) : Bool := 1 ≤ n && n ≤ 30

/-- A record joins the table in station order (R60). -/
def insertStation (r : Station) : List Station → List Station
  | [] => [r]
  | x :: rest => if r.station < x.station then r :: x :: rest else x :: insertStation r rest

/-- The bound address an ENROL_STATION body carries: absent unless presence bit 0 is set (R210). -/
def enrolAddress (body : List Byte) : Option Addr :=
  if (byteAt body 1).getLsbD 0 then some (addrAt body 2) else none

/-- The record of a new station (R61, R196). -/
def newStation (n : Nat) (bound : Option Addr) (stamp : BitVec 32) : Station :=
  { station := n, bound := bound, clearStamp := stamp }

/-- ENROL_STATION (R75). -/
def answerEnrolStation (q : Request) (s : State) : Answer :=
  let n := numAt q.body 0
  let bound := enrolAddress q.body
  if !stationInRange n then refuseRange .station 0xFF s
  else if (bound.map groupBit).getD false then refuseRange .address 0xFF s
  else if (s.station? n).isSome then refuse .exists [] s
  else
    let r := newStation n bound s.identity.seconds
    okWith r.bytes ((s.onStations (insertStation r)).raiseStation r .enrolled)

/-- The index of the first entry of a bank that names a station (R76). -/
def firstNaming (n : Nat) (b : Bank) : Option Nat := firstFailing (fun e => e.station != n) b.entries

/-- Where a station is in use: ACTIVE, or PENDING while it is armed; the bank's code and the index (R76). -/
def stationInUse (n : Nat) (st : Store) : Option (Byte × Nat) :=
  match firstNaming n st.active with
  | some i => some (0x00, i)
  | none => if st.armed then (firstNaming n st.pending).map fun i => (0x01, i) else none

/-- The withdrawal notice: state NONE, and the counts of the record just before its removal (R76, R81). -/
def State.raiseWithdrawn (r : Station) (s : State) : State :=
  s.raise .stationState (some r.station)
    ⟨stationNoneCode, StationCause.code .withdrawn, byteOf r.missCount, byteOf r.strikeCount⟩

/-- WITHDRAW_STATION (R76). -/
def answerWithdrawStation (q : Request) (s : State) : Answer :=
  let n := numAt q.body 0
  if !stationInRange n then refuseRange .station 0xFF s
  else match s.station? n with
    | none => refuse .unknownStation [] s
    | some r =>
      match stationInUse n s.store with
      | some (bank, i) => refuse .inUse [bank, byteOf i] s
      | none => okWith [] ((s.onStations (List.filter fun x => x.station != n)).raiseWithdrawn r)

/-- SET_STATION's checks that come before the action's own (R77), and then the action on the record. -/
def setStation (act : Station → Answer) (q : Request) (s : State) : Answer :=
  let n := numAt q.body 0
  if !stationInRange n then refuseRange .station 0xFF s
  else if numAt q.body 1 < 1 || 4 < numAt q.body 1 then refuseRange .action 0xFF s
  else match s.station? n with
    | none => refuse .unknownStation [] s
    | some r => act r

/-- The record after MUTE (R77). -/
def Station.mute (r : Station) : Station := { r with state := .muted, muteCause := some .manual }

/-- Action MUTE (R77): the notice is raised when the state or the cause has changed. -/
def actMute (s : State) (r : Station) : Answer :=
  let s' := s.onStation r.station fun _ => r.mute
  okWith r.mute.bytes
    (if r.state == .muted && r.muteCause == some .manual then s' else s'.raiseStation r.mute .manual)

/-- The record after RESTORE (R78). -/
def Station.restore (r : Station) : Station :=
  { r with state := .unseen, missCount := 0, strikeCount := 0, cleanRun := 0, muteCause := none }

/-- Action RESTORE (R78). -/
def actRestore (s : State) (r : Station) : Answer :=
  okWith r.restore.bytes ((s.onStation r.station fun _ => r.restore).raiseStation r.restore .restored)

/-- Action BIND (R77, R79). -/
def actBind (q : Request) (s : State) (r : Station) : Answer :=
  let a := addrAt q.body 2
  if groupBit a then refuseRange .address 0xFF s
  else
    let r' := { r with bound := some a }
    okWith r'.bytes (s.onStation r.station fun _ => r')

/-- Action UNBIND (R79). -/
def actUnbind (s : State) (r : Station) : Answer :=
  let r' := { r with bound := none }
  okWith r'.bytes (s.onStation r.station fun _ => r')

/-- READ_STATIONS (R80). -/
def answerReadStations (q : Request) (s : State) : Answer :=
  let first := numAt q.body 0
  let count := numAt q.body 1
  if !stationInRange first then refuseRange .first 0xFF s
  else
    let records := s.stations.filter fun r => first ≤ r.station && r.station < first + count && r.station ≤ 30
    okWith ([byteOf s.stations.length, byteOf records.length] ++ records.flatMap Station.bytes) s

/-- The action byte of a SET_STATION frame, where its body has one (R210). -/
def setStationAction (frame : List Byte) : Option Nat :=
  if bodyLengthFits frame && 2 ≤ envBodyLength frame then some (numAt frame 25) else none

/-- A SET_STATION of an action; one whose action is none of the four, or not there, is taken under each of the
four rows (R77, log 3). -/
def isSetStation (action : Nat) (frame : List Byte) : Bool :=
  hasCode codeSetStation frame
    && match setStationAction frame with
       | none => true
       | some a => a == action || a < 1 || 4 < a

/-- The row of READ_STATIONS. -/
def rowReadStations : RequestRow :=
  { names := hasCode 0x30, permission := .read, fits := hasSize 2, answer := answerReadStations }

/-- The row of ENROL_STATION. -/
def rowEnrolStation : RequestRow :=
  { names := hasCode 0x31, permission := .write, fits := hasSize 8, answer := answerEnrolStation }

/-- The row of WITHDRAW_STATION. -/
def rowWithdrawStation : RequestRow :=
  { names := hasCode 0x32, permission := .write, fits := hasSize 1, answer := answerWithdrawStation }

/-- The row of SET_STATION MUTE. -/
def rowSetStationMute : RequestRow :=
  { names := isSetStation 1, permission := .write, fits := hasSize 8,
    answer := fun q s => setStation (actMute s) q s }

/-- The row of SET_STATION RESTORE. -/
def rowSetStationRestore : RequestRow :=
  { names := isSetStation 2, permission := .write, fits := hasSize 8,
    answer := fun q s => setStation (actRestore s) q s }

/-- The row of SET_STATION BIND. -/
def rowSetStationBind : RequestRow :=
  { names := isSetStation 3, permission := .write, fits := hasSize 8,
    answer := fun q s => setStation (actBind q s) q s }

/-- The row of SET_STATION UNBIND. -/
def rowSetStationUnbind : RequestRow :=
  { names := isSetStation 4, permission := .write, fits := hasSize 8,
    answer := fun q s => setStation (actUnbind s) q s }

/-- READ_STATIONS (R80). -/
def execReadStations (dt : Nat) (s : State) : Host.Outcome State Fault Refusal :=
  takeRequestEvent rowReadStations dt s

/-- ENROL_STATION (R75). -/
def execEnrolStation (dt : Nat) (s : State) : Host.Outcome State Fault Refusal :=
  takeRequestEvent rowEnrolStation dt s

/-- WITHDRAW_STATION (R76). -/
def execWithdrawStation (dt : Nat) (s : State) : Host.Outcome State Fault Refusal :=
  takeRequestEvent rowWithdrawStation dt s

/-- SET_STATION MUTE (R77). -/
def execSetStationMute (dt : Nat) (s : State) : Host.Outcome State Fault Refusal :=
  takeRequestEvent rowSetStationMute dt s

/-- SET_STATION RESTORE (R78). -/
def execSetStationRestore (dt : Nat) (s : State) : Host.Outcome State Fault Refusal :=
  takeRequestEvent rowSetStationRestore dt s

/-- SET_STATION BIND (R79). -/
def execSetStationBind (dt : Nat) (s : State) : Host.Outcome State Fault Refusal :=
  takeRequestEvent rowSetStationBind dt s

/-- SET_STATION UNBIND (R79). -/
def execSetStationUnbind (dt : Nat) (s : State) : Host.Outcome State Fault Refusal :=
  takeRequestEvent rowSetStationUnbind dt s

end Sys2Proof.Machine
end

