-- ==== Sys2Proof/Machine/Counters.lean ====
section
/-! DEFINITION. READ_COUNTERS (R195 to R200), IDENTIFY (R202) and the seconds since reset (R201). -/

namespace Sys2Proof.Machine

/-- The counters of the PORTS set in the order of R152. -/
def PortCounters.list (c : PortCounters) : List Counter :=
  [c.rxGood, c.fcsErrors, c.lengthErrors, c.mgmtTaken, c.mgmtDropped, c.txResponses, c.txNotices, c.txForwarded]

/-- The counters of the TRUNK set in the order of R97. -/
def TrunkCounters.list (c : TrunkCounters) : List Counter :=
  [c.roundsStarted, c.roundsAbandoned, c.strays, c.foreignMarkers, c.badMarkers, c.headCollisions,
   c.blockedEntries]

/-- The counters of a station in the order of R63. -/
def StationCounters.list (c : StationCounters) : List Counter :=
  [c.callsIssued, c.callsSkipped, c.passes, c.framesValid, c.framesAdmitted, c.fcsErrors, c.lengthErrors,
   c.foreignSource, c.misses, c.excess, c.collisions, c.overruns]

/-- The eight counters of DX or DN in the order of R137. -/
def QueueCounters.downList (c : QueueCounters) : List Counter :=
  [c.enqueued, c.transmitted, c.flushed, c.returned, c.frameLimit, c.cellLimit, c.pool, c.abortDrop]

/-- The seven counters of UQ in the order of R137. -/
def QueueCounters.upList (c : QueueCounters) : List Counter :=
  [c.enqueued, c.transmitted, c.flushed, c.frameLimit, c.cellLimit, c.pool, c.linkDown]

/-- The QUEUES set: DX, then DN, then UQ (R196). -/
def Queues.counterList (q : Queues) : List Counter :=
  q.dx.counters.downList ++ q.dn.counters.downList ++ q.uq.counters.upList

/-- The RULES set: the hit counters, default-hit UP and DOWN, agent rejects (R196). -/
def Admission.counterList (a : Admission) : List Counter :=
  a.rules.map Rule.hits ++ [a.hitsUp, a.hitsDown, a.agentRejects]

/-- The AGENT set in the order of R179. -/
def AgentCounters.list (c : AgentCounters) : List Counter :=
  [c.requestsTaken, c.replays, c.refused, c.inputDrops, c.responsesDropped, c.sessionsEvicted,
   c.envelopeDiscards]

/-- The NOTICES set in the order of R194. -/
def NoticeCounters.list (c : NoticeCounters) : List Counter :=
  [c.raised, c.coalesced, c.overflowed, c.renewed, c.acknowledged, c.sendsRecorded]

/-- A set as read: its counters, its clear stamp, and the part after it is cleared at `seconds` (R198, R199). -/
structure CounterSet where
  counters : List Counter
  stamp : BitVec 32
  cleared : State

/-- Every counter of the QUEUES set becomes 0 (R137). -/
def Queues.clearCounters (q : Queues) : Queues :=
  { q with dx := { q.dx with counters := {} }, dn := { q.dn with counters := {} },
           uq := { q.uq with counters := {} } }

/-- Every counter of the RULES set becomes 0 (R117). -/
def Admission.clearCounters (a : Admission) : Admission :=
  { a with rules := a.rules.map fun r => { r with hits := 0 }, hitsUp := 0, hitsDown := 0, agentRejects := 0 }

/-- The set of a code; for STATION the record of the station (R196). -/
def counterSet (code station : Nat) (s : State) : Option CounterSet :=
  let t := s.identity.seconds
  match code with
  | 0 => some ⟨s.uplink.counters.list, s.stamps.ports,
      (s.onUplink fun u => { u with counters := {} }).onStamps fun x => { x with ports := t }⟩
  | 1 => some ⟨s.trunkCounters.list, s.stamps.trunk,
      (s.onTrunkCounters fun _ => {}).onStamps fun x => { x with trunk := t }⟩
  | 2 => (s.station? station).map fun r => ⟨r.counters.list, r.clearStamp,
      s.onStation station fun r => { r with counters := {}, clearStamp := t }⟩
  | 3 => some ⟨s.queues.counterList, s.stamps.queues,
      (s.onQueues Queues.clearCounters).onStamps fun x => { x with queues := t }⟩
  | 4 => some ⟨s.admission.counterList, s.stamps.rules,
      (s.onAdmission Admission.clearCounters).onStamps fun x => { x with rules := t }⟩
  | 5 => some ⟨s.agent.counters.list, s.stamps.agent,
      (s.onAgent fun a => { a with counters := {} }).onStamps fun x => { x with agent := t }⟩
  | 6 => some ⟨s.notices.counters.list, s.stamps.notices,
      (s.onNotices fun l => { l with counters := {} }).onStamps fun x => { x with notices := t }⟩
  | _ => none

/-- The code of the STATION set (R196). -/
def stationSet : Nat := 2

/-- READ_COUNTERS, with and without clear: its checks in the order of R197, the read, and the clear (R198,
R199). -/
def answerCounters (q : Request) (s : State) : Answer :=
  let code := numAt q.body 0
  let station := numAt q.body 1
  let flag := numAt q.body 2
  if 6 < code then refuseRange .set 0xFF s
  else if 1 < flag then refuseRange .clear 0xFF s
  else if code == stationSet && !stationInRange station then refuseRange .station 0xFF s
  else match counterSet code station s with
    | none => refuse .unknownStation [] s
    | some c =>
      okWith ([byteOf code, if code == stationSet then byteOf station else 0, byteOf flag]
        ++ bytes4 s.identity.seconds.toNat ++ bytes4 c.stamp.toNat ++ [byteOf c.counters.length]
        ++ c.counters.flatMap fun x => bytes4 x.toNat) (if flag == 1 then c.cleared else s)

/-- The clear flag of a READ_COUNTERS frame, where its body has one (R197). -/
def clearFlag (frame : List Byte) : Option Nat :=
  if bodyLengthFits frame then some (numAt frame 26) else none

/-- READ_COUNTERS without clear: its flag is 0, or its body fails step 5 (R158, R197). -/
def isReadCounters (frame : List Byte) : Bool :=
  hasCode codeReadCounters frame && ((clearFlag frame).getD 0 == 0)

/-- READ_COUNTERS with clear: any flag other than 0 (R197). -/
def isReadCountersClear (frame : List Byte) : Bool :=
  hasCode codeReadCounters frame && ((clearFlag frame).getD 0 != 0)

/-- The row of READ_COUNTERS without clear. -/
def rowReadCounters : RequestRow :=
  { names := isReadCounters, permission := .read, fits := hasSize 3, answer := answerCounters }

/-- The row of READ_COUNTERS with clear. -/
def rowReadCountersClear : RequestRow :=
  { names := isReadCountersClear, permission := .write, fits := hasSize 3, answer := answerCounters }

/-- READ_COUNTERS (R198). -/
def execReadCounters (dt : Nat) (s : State) : Host.Outcome State Fault Refusal :=
  takeRequestEvent rowReadCounters dt s

/-- READ_COUNTERS with clear (R199). -/
def execReadCountersClear (dt : Nat) (s : State) : Host.Outcome State Fault Refusal :=
  takeRequestEvent rowReadCountersClear dt s

/-- IDENTIFY (R202). -/
def answerIdentify (_q : Request) (s : State) : Answer :=
  okWith (bytes2 Config.vendorCode ++ bytes2 Config.partCode ++ [byteOf Config.revision]
    ++ addrBytes s.identity.factory ++ addrBytes Config.groupAddress
    ++ [byteOf Config.roundEntries, byteOf Config.stationCount, byteOf Config.ruleCount]
    ++ bytes2 Config.cellCount
    ++ [byteOf Config.noticePlaces, byteOf Config.sessionPlaces, byteOf Config.inputPlaces,
        byteOf Config.outputPlaces, s.identity.cause.code]
    ++ bytes4 s.identity.seconds.toNat ++ [linkCode s.uplink.link]) s

/-- The row of IDENTIFY. -/
def rowIdentify : RequestRow :=
  { names := hasCode 0x01, permission := .read, fits := hasSize 0, answer := answerIdentify }

/-- IDENTIFY (R202). -/
def execIdentify (dt : Nat) (s : State) : Host.Outcome State Fault Refusal := takeRequestEvent rowIdentify dt s

/-- A second counted on CLK25 ends (R201). -/
def State.tickSecond (s : State) : State :=
  (s.reach (s.identity.secondStart + second)).onIdentity fun i =>
    { i with seconds := i.seconds + 1, secondStart := i.secondStart + second }

/-- SECONDS_SINCE_RESET_TICK (R201). -/
def execSecondsSinceResetTick (s : State) : Host.Outcome State Fault Refusal := takeEvent State.tickSecond s

end Sys2Proof.Machine
end

