-- ==== Sys2Proof/Machine/NoticeRequests.lean ====
section
/-! DEFINITION. The requests on the notice list (R190, R192) and the retry time (R189). -/

namespace Sys2Proof.Machine

/-- READ_NOTICES (R192). -/
def answerReadNotices (_q : Request) (s : State) : Answer :=
  let l := s.notices
  okWith (bytes2 l.lost ++ bytes2 l.next.toNat ++ [byteOf l.records.length]
    ++ l.records.flatMap (Notice.bytes s.now)) s

/-- The records whose numbers N does not cover stay (R190). -/
def NoticeList.acknowledge (n : BitVec 16) (l : NoticeList) : NoticeList :=
  let left := l.records.filter fun r => !covers n r.number
  { l with records := left, lost := 0,
           counters := { l.counters with
             acknowledged := l.counters.acknowledged + BitVec.ofNat 32 (l.records.length - left.length) } }

/-- ACK_NOTICES (R190). -/
def answerAckNotices (q : Request) (s : State) : Answer :=
  let l := s.notices
  let l' := l.acknowledge (wordAt q.body 0)
  okWith (byteOf (l.records.length - l'.records.length) :: (bytes2 l.lost ++ [byteOf l'.records.length]))
    (s.onNotices (NoticeList.acknowledge (wordAt q.body 0)))

/-- The row of READ_NOTICES. -/
def rowReadNotices : RequestRow :=
  { names := hasCode 0x60, permission := .read, fits := hasSize 0, answer := answerReadNotices }

/-- The row of ACK_NOTICES. -/
def rowAckNotices : RequestRow :=
  { names := hasCode 0x61, permission := .ack, fits := hasSize 2, answer := answerAckNotices }

/-- READ_NOTICES (R192). -/
def execReadNotices (dt : Nat) (s : State) : Host.Outcome State Fault Refusal :=
  takeRequestEvent rowReadNotices dt s

/-- ACK_NOTICES (R190). -/
def execAckNotices (dt : Nat) (s : State) : Host.Outcome State Fault Refusal :=
  takeRequestEvent rowAckNotices dt s

/-- A record's retry time is reached and it becomes due again (R189). -/
def State.retryNotice (number : BitVec 16) (s : State) : State :=
  match (s.notices.records.find? (·.number == number)).bind Notice.retry with
  | none => s
  | some t => (s.reach t).onNotices fun l =>
      { l with records := l.records.map fun r => if r.number == number then { r with retry := none } else r }

/-- RETRY_TIME (R189). -/
def execRetryTime (number : BitVec 16) (s : State) : Host.Outcome State Fault Refusal :=
  takeEvent (State.retryNotice number) s

end Sys2Proof.Machine
end

