-- ==== Sys2Proof/Machine/QueueRequests.lean ====
section
/-! DEFINITION. The requests on the queues (R134 to R136). -/

namespace Sys2Proof.Machine

/-- Frame count, cell count, frame limit and cell limit of a queue, two bytes each (R211). -/
def Queue.statusBytes (q : Queue) : List Byte :=
  bytes2 q.frameCount ++ bytes2 q.cellCount ++ bytes2 q.frameLimit ++ bytes2 q.cellLimit

/-- Frame count and cell count of UQ's bands, expedited first (R134). -/
def bandBytes (l : List Frame) : List Byte :=
  let exp := l.filter Frame.isExpedited
  let normal := l.filter fun f => !f.isExpedited
  bytes2 exp.length ++ bytes2 (cellSum exp) ++ bytes2 normal.length ++ bytes2 (cellSum normal)

/-- The trunk on-air slot in the queue status item (R211). The spec gives the present byte of an empty slot alone; of a
held slot it is 0x01: DESIGN CHOICE, unsafe (log 22). -/
def trunkSlotBytes : Option TrunkSlot → List Byte
  | none => List.replicate 8 0
  | some t =>
    [0x01] ++ bytes2 t.frame.length ++ [byteOf t.frame.cells, t.frame.origin.code, t.frame.origin.stationByte,
     t.queue.code, byteOf (t.frame.abortCount.getD 0)]

/-- The uplink on-air slot in the queue status item (R211). The present byte of a held slot is 0x01: DESIGN CHOICE,
unsafe (log 22). -/
def uplinkSlotBytes : Option Frame → List Byte
  | none => List.replicate 5 0
  | some f => [0x01] ++ bytes2 f.length ++ [byteOf f.cells, f.origin.stationByte]

/-- The drop counts of DX or DN in the queue status item (R211). -/
def QueueCounters.downDropBytes (c : QueueCounters) : List Byte :=
  bytes4 c.frameLimit.toNat ++ bytes4 c.cellLimit.toNat ++ bytes4 c.pool.toNat ++ bytes4 c.abortDrop.toNat

/-- The drop counts of UQ in the queue status item (R211). -/
def QueueCounters.upDropBytes (c : QueueCounters) : List Byte :=
  bytes4 c.frameLimit.toNat ++ bytes4 c.cellLimit.toNat ++ bytes4 c.pool.toNat ++ bytes4 c.linkDown.toNat

/-- The queue status item, 95 bytes (R134, R211). -/
def Queues.statusBytes (q : Queues) : List Byte :=
  bytes2 q.free ++ q.dx.statusBytes ++ q.dn.statusBytes ++ q.uq.statusBytes ++ bandBytes q.uq.frames
    ++ trunkSlotBytes q.trunkSlot ++ uplinkSlotBytes q.uplinkSlot ++ q.dx.counters.downDropBytes
    ++ q.dn.counters.downDropBytes ++ q.uq.counters.upDropBytes

/-- READ_QUEUES (R134). -/
def answerReadQueues (_q : Request) (s : State) : Answer := okWith s.queues.statusBytes s

/-- SET_QUEUE_LIMITS (R135). -/
def answerSetQueueLimits (q : Request) (s : State) : Answer :=
  match queueOfCode (numAt q.body 0) with
  | none => refuseRange .queue 0xFF s
  | some name =>
    let frames := (wordAt q.body 1).toNat
    let cells := (wordAt q.body 3).toNat
    let queue := s.queues.get name
    if frames < 1 || 256 < frames then refuseRange .frameLimit 0xFF s
    else if cells < 12 || 512 < cells then refuseRange .cellLimit 0xFF s
    else if frames < queue.frameCount || cells < queue.cellCount then
      refuse .range ([RangeItem.code .occupancy, 0xFF] ++ bytes2 queue.frameCount ++ bytes2 queue.cellCount) s
    else okWith (name.code :: (bytes2 frames ++ bytes2 cells ++ bytes2 queue.frameCount ++ bytes2 queue.cellCount))
      (s.onQueues (Queues.on name fun x => { x with frameLimit := frames, cellLimit := cells }))

/-- FLUSH_QUEUE (R136). -/
def answerFlushQueue (q : Request) (s : State) : Answer :=
  match queueOfCode (numAt q.body 0) with
  | none => refuseRange .queue 0xFF s
  | some name =>
    let queue := s.queues.get name
    okWith (bytes2 queue.frameCount ++ bytes2 queue.cellCount) (s.onQueues (Queues.flush name))

/-- The row of READ_QUEUES. -/
def rowReadQueues : RequestRow :=
  { names := hasCode 0x50, permission := .read, fits := hasSize 0, answer := answerReadQueues }

/-- The row of SET_QUEUE_LIMITS. -/
def rowSetQueueLimits : RequestRow :=
  { names := hasCode 0x51, permission := .write, fits := hasSize 5, answer := answerSetQueueLimits }

/-- The row of FLUSH_QUEUE. -/
def rowFlushQueue : RequestRow :=
  { names := hasCode 0x52, permission := .write, fits := hasSize 1, answer := answerFlushQueue }

/-- READ_QUEUES (R134). -/
def execReadQueues (dt : Nat) (s : State) : Host.Outcome State Fault Refusal := takeRequestEvent rowReadQueues dt s

/-- SET_QUEUE_LIMITS (R135). -/
def execSetQueueLimits (dt : Nat) (s : State) : Host.Outcome State Fault Refusal :=
  takeRequestEvent rowSetQueueLimits dt s

/-- FLUSH_QUEUE (R136). -/
def execFlushQueue (dt : Nat) (s : State) : Host.Outcome State Fault Refusal :=
  takeRequestEvent rowFlushQueue dt s

end Sys2Proof.Machine
end

