-- ==== Sys2Proof/Machine/Admission.lean ====
section
/-! DEFINITION. The Admission Unit: a presented frame is classified and sent to one place (R102 to R112). -/

namespace Sys2Proof.Machine

/-- A frame presented for classification: from a station in its call, travelling UP, or from the uplink,
travelling DOWN (R102). -/
structure Presented where
  bytes : List Byte
  /-- The called station of an UP frame; absent for a DOWN frame. -/
  station : Option Nat
  deriving DecidableEq, Repr

/-- A rule's direction includes the frame's (R105). -/
def Direction.includes (d : Direction) (up : Bool) : Bool :=
  match d with
  | .up => up
  | .down => !up
  | .either => true

/-- A rule matches a presented frame (R105 to R108). -/
def Rule.matchesFrame (p : Presented) (r : Rule) : Bool :=
  r.enabled && r.direction.includes p.station.isSome
    && (frameDst p.bytes &&& r.mask) == (r.value &&& r.mask)
    && (match r.type with | none => true | some t => t == frameType p.bytes)
    && (match r.origin with | none => true | some n => p.station == some n)

/-- The action of the first enabled rule that matches, whose hit counter advances; none if no rule matches
(R109). -/
def decideRules (p : Presented) : List Rule → Option (Action × List Rule)
  | [] => none
  | r :: rest =>
    if r.matchesFrame p then some (r.action, { r with hits := r.hits + 1 } :: rest)
    else (decideRules p rest).map fun d => (d.1, r :: d.2)

/-- The decision on a presented frame, with the counter it advances (R109). -/
def Admission.decide (p : Presented) (a : Admission) : Action × Admission :=
  match decideRules p a.rules with
  | some (act, rules) => (act, { a with rules := rules })
  | none =>
    if p.station.isSome then (a.defaultUp, { a with hitsUp := a.hitsUp + 1 })
    else (a.defaultDown, { a with hitsDown := a.hitsDown + 1 })

/-- A classified frame as a queue holds it: in UQ with its band, in DX or DN with abort count 0 (R110, R119). -/
def Presented.frame (band : Band) (p : Presented) : Frame :=
  match p.station with
  | some n => { bytes := p.bytes, origin := .trunk n, band := some band, abortCount := none }
  | none => { bytes := p.bytes, origin := .uplink, band := none, abortCount := some 0 }

/-- The way a presented frame came. -/
def Presented.port (p : Presented) : Port :=
  match p.station with
  | some n => .trunk n
  | none => .uplink

/-- The action AGENT (R112): the frame joins the agent's input list, or is rejected for its type or length, or
dropped for want of a place. -/
def State.offerAgent (p : Presented) (s : State) : State :=
  if frameType p.bytes != mgmtType || mgmtMaxLength < p.bytes.length then
    s.onAdmission fun a => { a with agentRejects := a.agentRejects + 1 }
  else if s.agent.input.length < Config.inputPlaces then
    s.onAgent fun a => { a with input := a.input ++ [⟨p.port, p.bytes⟩] }
  else s.countAgent fun c => { c with inputDrops := c.inputDrops + 1 }

/-- A decided action sends the frame to its place (R110 to R112). -/
def State.carryAction (act : Action) (p : Presented) (s : State) : State :=
  match act with
  | .forward => s.enqueue (if p.station.isSome then .uq else .dn) (p.frame .normal)
  | .expedite => s.enqueue (if p.station.isSome then .uq else .dx) (p.frame .expedited)
  | .drop => s
  | .agent => s.offerAgent p

/-- A frame is presented to the Admission Unit (R102, R109). -/
def State.present (p : Presented) (s : State) : State :=
  let d := s.admission.decide p
  (s.onAdmission fun _ => d.2).carryAction d.1 p

end Sys2Proof.Machine
end

