-- ==== Sys2Proof/Machine/StationRecords.lean ====
section
/-! DEFINITION. What the round does to a station's record: the outcome report (R64 to R72) and the frame ends
with the bound-address check (R73, R74). -/

namespace Sys2Proof.Machine

/-- The outcome of a call (02, section 2.4). -/
inductive CallOutcome where
  | passed | answered | missed | stray | collided | excess | overrun
  deriving DecidableEq, Repr

/-- What the engine reports with an outcome (R46). -/
structure Report where
  outcome : CallOutcome
  round : BitVec 8
  badFrames : Nat
  foreignFrames : Nat
  deriving DecidableEq, Repr

/-- An answer: the station put a signal on the line in its call (R65). -/
def CallOutcome.isAnswer : CallOutcome → Bool
  | .passed | .answered | .excess | .collided | .overrun => true
  | .missed | .stray => false

/-- A clean answer: PASSED, or ANSWERED with no bad and no foreign-source frame (R70). -/
def Report.isClean (p : Report) : Bool :=
  match p.outcome with
  | .passed => true
  | .answered => p.badFrames == 0 && p.foreignFrames == 0
  | _ => false

/-- The counter of an outcome advances, if it has one (R63). -/
def StationCounters.outcome (o : CallOutcome) (c : StationCounters) : StationCounters :=
  match o with
  | .passed => { c with passes := c.passes + 1 }
  | .missed => { c with misses := c.misses + 1 }
  | .excess => { c with excess := c.excess + 1 }
  | .collided => { c with collisions := c.collisions + 1 }
  | .overrun => { c with overruns := c.overruns + 1 }
  | .answered | .stray => c

/-- A record changed by a report, with the cause of the last change of its state, if any. -/
abbrev Judged := Station × Option StationCause

/-- An answer: no misses, and PRESENT from UNSEEN or LAPSED (R65). -/
def judgeAnswer (p : Report) (j : Judged) : Judged :=
  if p.outcome.isAnswer then
    let r := { j.1 with missCount := 0, lastAnswered := some p.round }
    if r.state == .unseen || r.state == .lapsed then ({ r with state := .present }, some .answered)
    else (r, j.2)
  else j

/-- A miss: LAPSED at the miss limit, from UNSEEN or PRESENT (R66). -/
def judgeMiss (limit : Nat) (p : Report) (j : Judged) : Judged :=
  if p.outcome == .missed then
    let r := { j.1 with missCount := saturate 15 (j.1.missCount + 1) }
    if limit ≤ r.missCount && (r.state == .unseen || r.state == .present) then
      ({ r with state := .lapsed }, some .misses)
    else (r, j.2)
  else j

/-- A strike for COLLIDED and EXCESS: MUTED at the strike limit, unless MUTED already (R67). -/
def judgeStrike (limit : Nat) (p : Report) (j : Judged) : Judged :=
  if p.outcome == .collided || p.outcome == .excess then
    let r := { j.1 with strikeCount := saturate 7 (j.1.strikeCount + 1) }
    if limit ≤ r.strikeCount && r.state != .muted then
      ({ r with state := .muted, muteCause := some .strikes }, some .strikes)
    else (r, j.2)
  else j

/-- OVERRUN mutes from every state, and its notice is raised every time (R68). -/
def judgeOverrun (p : Report) (j : Judged) : Judged :=
  if p.outcome == .overrun then
    ({ j.1 with strikeCount := 7, state := .muted, muteCause := some .overrun }, some .overrun)
  else j

/-- The clean run, with one strike forgiven for 32 clean answers in a row (R70). -/
def judgeRun (p : Report) (j : Judged) : Judged :=
  if p.isClean then
    if j.1.cleanRun + 1 == 32 then ({ j.1 with cleanRun := 0, strikeCount := j.1.strikeCount - 1 }, j.2)
    else ({ j.1 with cleanRun := j.1.cleanRun + 1 }, j.2)
  else ({ j.1 with cleanRun := 0 }, j.2)

/-- A report applied to a record under the limits of ACTIVE, in the order of R64. -/
def judge (h : Header) (p : Report) (r : Station) : Judged :=
  judgeRun p <| judgeOverrun p <| judgeStrike h.strikeLimit p <| judgeMiss h.missLimit p <| judgeAnswer p
    ({ r with counters := r.counters.outcome p.outcome }, none)

/-- The Station Table applies a report as one event and raises at most one notice (R64). -/
def State.report (station : Nat) (p : Report) (s : State) : State :=
  match s.station? station with
  | none => s
  | some r =>
    let j := judge s.store.active.header p r
    let s := s.onStation station fun _ => j.1
    match j.2 with
    | none => s
    | some cause => s.raiseStation j.1 cause

/-- A bad frame's end: the counter of its reason advances (R73). -/
def StationCounters.badFrame (reason : BadReason) (c : StationCounters) : StationCounters :=
  match reason with
  | .fcs => { c with fcsErrors := c.fcsErrors + 1 }
  | .length => { c with lengthErrors := c.lengthErrors + 1 }

/-- The bound-address check (R73, R74): a frame passes if the record has no bound address or its source is
that address. -/
def boundPasses (station : Nat) (frame : List Byte) (s : State) : Bool :=
  match (s.station? station).bind Station.bound with
  | none => true
  | some a => frameSrc frame == a

/-- The counters of a valid frame's end: frames valid, and frames admitted or foreign source (R73). -/
def StationCounters.validFrame (passes : Bool) (c : StationCounters) : StationCounters :=
  if passes then { c with framesValid := c.framesValid + 1, framesAdmitted := c.framesAdmitted + 1 }
  else { c with framesValid := c.framesValid + 1, foreignSource := c.foreignSource + 1 }

end Sys2Proof.Machine
end

