-- ==== Sys2Proof/Machine/RoundEngine.lean ====
section
/-! DEFINITION. The Round Engine: rounds and entries (R31 to R35), calls and outcomes (R36 to R46), head entries
(R48 to R51), turnaround, quieting and blocking (R52 to R56), the floor (R57 to R59), the requests START_TRUNK,
STOP_TRUNK and READ_TRUNK (R25 to R29), and the engine's timer events. -/

namespace Sys2Proof.Machine

/-- A counter of the TRUNK set advances. -/
def State.countTrunk (f : TrunkCounters → TrunkCounters) (s : State) : State := s.onTrunkCounters f

/-! ### Phases (R24, R52, R54) -/

/-- The engine enters a phase; no timer of the phase before runs on. -/
def Engine.enter (p : Phase) (e : Engine) : Engine :=
  { e with phase := some p, timer := none, gap := none, quietFrom := none, origin := none, toBoundary := false }

/-- The engine enters TURNAROUND (R52). -/
def State.toTurnaround (s : State) : State :=
  s.onEngine fun e => { e.enter .turnaround with timer := some (s.now + turnaround) }

/-- The engine enters QUIETING (R54). -/
def State.toQuieting (s : State) : State :=
  s.onEngine fun e => { e.enter .quieting with quietFrom := some s.now }

/-! ### STOPPED (R27, R28, R30) -/

/-- The engine's fields at an entry into STOPPED (R27). -/
def Engine.stop (e : Engine) : Engine :=
  { e with phase := none, index := none, firstEntry := [], fillSuspended := false, timer := none, gap := none,
           quietFrom := none, origin := none, toBoundary := false }

/-- The trunk enters STOPPED: TRUNK_STATE with cause REQUEST, and a swap point (R27, R15; log 8). -/
def State.enterStopped (s : State) : State :=
  (((s.onEngine Engine.stop).enterTrunk .stopped).raiseTrunkState .request).swapPoint

/-- Where the rules of RUNNING lead to TURNAROUND or QUIETING, STOPPING leads to STOPPED (R28). -/
def State.leadTo (next : State → State) (s : State) : State :=
  if s.engine.trunk == .stopping then s.enterStopped else next s

/-! ### Rounds and entries (R31 to R36, R48) -/

/-- A round boundary, in the order of R31. -/
def State.roundBoundary (s : State) : State :=
  let s := s.swapPoint
  let s := s.onEngine fun e =>
    { e.enter .roundMark with round := e.round + 1, firstEntry := [], roundStart := some s.now,
                              fillSuspended := false }
  let s := s.countTrunk fun c => { c with roundsStarted := c.roundsStarted + 1 }
  s.sendMarker (roundStartMarker s.engine.round s.store.generation)

/-- Whether less time than the floor has passed since the round start (R35). -/
def floorAhead (s : State) : Bool :=
  match floorExpiry s with
  | none => false
  | some t => s.now < t

/-- The end of a round: FLOOR if the floor is ahead, otherwise the next round boundary at once (R35, R57,
R58). -/
def State.endRound (s : State) : State :=
  let s := s.onEngine fun e => { e with index := none }
  if floorAhead s then (s.onEngine (Engine.enter .floor)).considerFill else s.roundBoundary

/-- A probe round: the round number is a multiple of the probe period of ACTIVE (R34). -/
def probeRound (s : State) : Bool := s.engine.round.toNat % s.store.active.header.probePeriod == 0

/-- Whether a station entry is called at its entry start (R33, R34); `first` says that it is the station's first
entry of the round. An entry without a record is not called (log 12). -/
def entryCalled (first : Bool) (n : Nat) (s : State) : Bool :=
  match (s.station? n).map Station.state with
  | some .unseen | some .present => true
  | some .lapsed => probeRound s && first
  | some .muted | none => false

/-- A station is called (R36). -/
def State.startCall (e : RoundEntry) (s : State) : State :=
  (s.onEngine fun g =>
    { g.enter .calling with credit := e.credit, framesInCall := 0, badFrames := 0, foreignFrames := 0 }).sendMarker
    (callMarker e.station e.credit)

/-- A head entry begins with its first frame (R48, R49). -/
def State.startHeadEntry (e : RoundEntry) (q : QueueName) (s : State) : State :=
  (s.onEngine fun g => { g.enter .sending with credit := e.credit }).takeHeadFrame q

/-- A station entry that is skipped (R33, R63). -/
def State.skipStation (n : Nat) (s : State) : State :=
  s.countStation n fun c => { c with callsSkipped := c.callsSkipped + 1 }

/-- The first-entry set with a station added (R34). -/
def addFirst (n : Nat) (l : List Nat) : List Nat := if l.contains n then l else l ++ [n]

/-- The entries from index `i` on are started in turn until one is called or sends, or the round ends (R33,
R34, R48). -/
def startEntries : List RoundEntry → Nat → State → State
  | [], _, s => s.endRound
  | e :: rest, i, s =>
    let first := !s.engine.firstEntry.contains e.station
    let s := s.onEngine fun g => { g with index := some i }
    if e.station == 0 then
      match drainQueue e.drain s.queues with
      | some q => s.startHeadEntry e q
      | none => startEntries rest (i + 1) s
    else
      let s := s.onEngine fun g => { g with firstEntry := addFirst e.station g.firstEntry }
      if entryCalled first e.station s then s.startCall e
      else startEntries rest (i + 1) (s.skipStation e.station)

/-- The next index: 0 for the first entry of a round, otherwise the one after the current (R33). -/
def nextIndex (e : Engine) : Nat :=
  match e.index with
  | none => 0
  | some i => i + 1

/-- An entry start (R33). -/
def State.startEntry (s : State) : State :=
  startEntries (s.store.active.entries.drop (nextIndex s.engine)) (nextIndex s.engine) s

/-- The ACTIVE entry being worked (R23). -/
def State.currentEntry (s : State) : Option RoundEntry :=
  s.engine.index.bind fun i => s.store.active.entries[i]?

/-- The called station of the call in flight; 0 outside a call. -/
def State.calledStation (s : State) : Nat := (s.currentEntry.map RoundEntry.station).getD 0

/-! ### Outcomes of calls (R37 to R46) -/

/-- The outcome is reported to the Station Table (R46). -/
def State.reportOutcome (o : CallOutcome) (s : State) : State :=
  s.report s.calledStation
    { outcome := o, round := s.engine.round, badFrames := s.engine.badFrames,
      foreignFrames := s.engine.foreignFrames }

/-- The engine's fields at an entry into BLOCKED (R56). -/
def Engine.block (now : Nat) (e : Engine) : Engine :=
  { e with phase := none, index := none, credit := 0, fillSuspended := false, timer := none, gap := none,
           quietFrom := some now, origin := none, toBoundary := false }

/-- The trunk enters BLOCKED, with its counters and notices in the order of R45 and R55. -/
def State.enterBlocked (station : Option Nat) (cause : TrunkCause) (s : State) : State :=
  let index := s.engine.index
  let s := s.countTrunk fun c =>
    { c with roundsAbandoned := c.roundsAbandoned + 1, blockedEntries := c.blockedEntries + 1 }
  let s := (s.onEngine (Engine.block s.now)).enterTrunk .blocked
  (s.raiseTrunkState cause).raiseRecovery station .blocked index

/-- A call reaches its outcome (R37, R40, R42 to R45; in STOPPING R28). -/
def State.endCall (o : CallOutcome) (s : State) : State :=
  let station := s.calledStation
  let index := s.engine.index
  match o with
  | .passed | .answered | .missed => (s.reportOutcome o).leadTo State.toTurnaround
  | .stray =>
    (((s.countTrunk fun c => { c with strays := c.strays + 1 }).reportOutcome o).raiseRecovery (some station)
      .stray index).leadTo State.toQuieting
  | .collided => ((s.reportOutcome o).raiseRecovery (some station) .collision index).leadTo State.toQuieting
  | .excess => (s.reportOutcome o).leadTo State.toQuieting
  | .overrun =>
    let s := s.reportOutcome o
    if s.engine.trunk == .stopping then
      (s.countTrunk fun c => { c with roundsAbandoned := c.roundsAbandoned + 1 }).enterStopped
    else s.enterBlocked (some station) .stationOverrun

/-- After a frame of the answer: CONTINUING while credit is left, CLOSING when it is used; the continue window
runs from the CARRIER_OFF (R39, R40). -/
def State.continueCall (s : State) : State :=
  s.onEngine fun e =>
    { e.enter (if e.credit == 0 then .closing else .continuing) with
      timer := some (s.now + s.store.active.header.continueWindow * bitTime) }

/-- The end of a bad frame of the answer (R39, R73). -/
def State.badFrameEnd (reason : BadReason) (s : State) : State :=
  let s := s.onEngine fun e =>
    { e with credit := e.credit - 1, framesInCall := e.framesInCall + 1, badFrames := e.badFrames + 1 }
  (s.countStation s.calledStation (StationCounters.badFrame reason)).continueCall

/-- The end of a valid frame of the answer: the bound-address check, and a frame that passes is handed to the
Admission Unit (R39, R73). -/
def State.validFrameEnd (bytes : List Byte) (s : State) : State :=
  let n := s.calledStation
  let passes := boundPasses n bytes s
  let s := s.onEngine fun e =>
    { e with credit := e.credit - 1, framesInCall := e.framesInCall + 1,
             foreignFrames := if passes then e.foreignFrames else e.foreignFrames + 1 }
  let s := s.countStation n (StationCounters.validFrame passes)
  (if passes then s.present { bytes := bytes, station := some n } else s).continueCall

/-- A PASS naming the called station ends the call (R40). -/
def State.passEnd (s : State) : State :=
  s.endCall (if s.engine.framesInCall == 0 then .passed else .answered)

/-- A burst of the answer ends: the engine acts on its class and on the phase it began in (R38). -/
def State.answerEnd (c : BurstClass) (s : State) : State :=
  match c with
  | .validFrame bytes => if s.engine.origin == some .closing then s.endCall .excess else s.validFrameEnd bytes
  | .badFrame reason => if s.engine.origin == some .closing then s.endCall .excess else s.badFrameEnd reason
  | .marker m =>
    if m.type == passType && m.a.toNat == s.calledStation then s.passEnd else s.endCall .stray
  | .badMarker | .noise => s.endCall .stray

/-! ### Line events at the engine -/

/-- A burst of the answer begins (R37, R40). -/
def Engine.receive (o : BurstOrigin) (e : Engine) : Engine := { e.enter .receiving with origin := some o }

/-- Carrier outside a call: a stray is counted and RECOVERY raised with station absent (R53). -/
def State.strayOutside (s : State) : State :=
  (s.countTrunk fun c => { c with strays := c.strays + 1 }).raiseRecovery none .stray s.engine.index

/-- The floor fill is suspended and waits for a quiet interval (R59). -/
def State.suspendFill (s : State) : State :=
  s.onEngine fun e => { e with fillSuspended := true, quietFrom := some s.now }

/-- CARRIER_ON at the engine, by phase (R24, R37, R40, R53). In QUIETING the wait restarts, since the carrier
level is on. -/
def State.engineCarrierOn (s : State) : State :=
  match s.engine.phase with
  | some .awaiting => s.onEngine (Engine.receive .awaiting)
  | some .continuing => s.onEngine (Engine.receive .continuing)
  | some .closing => s.onEngine (Engine.receive .closing)
  | some .turnaround => s.strayOutside.toQuieting
  | some .quieting => s.strayOutside
  | some .floor => s.strayOutside.suspendFill
  | some .sending => if s.engine.gap.isSome then s.strayOutside.toQuieting else s
  | some .roundMark | some .calling | some .receiving | none => s

/-- CARRIER_OFF at the engine: it ends a burst of the answer in RECEIVING (R38). -/
def State.engineCarrierOff (c : BurstClass) (s : State) : State :=
  if s.engine.phase == some .receiving then s.answerEnd c else s

/-- COLLISION in a burst at the engine: in a call it gives COLLIDED (R43). -/
def State.engineBurstCollision (s : State) : State :=
  match s.engine.phase with
  | some .awaiting | some .receiving | some .continuing | some .closing => s.endCall .collided
  | _ => s

/-- A COLLISION cuts a marker in ROUND_MARK or CALLING: QUIETING, with RECOVERY and station absent (R32, R36). -/
def State.markerCollision (s : State) : State :=
  match s.engine.phase with
  | some .roundMark | some .calling =>
    ((s.countTrunk fun c => { c with headCollisions := c.headCollisions + 1 }).raiseRecovery none .collision
      s.engine.index).toQuieting
  | _ => s

/-- A COLLISION cuts a head frame: it returns or is dropped, and a head entry ends in QUIETING, a fill frame
suspends the fill, STOPPING ends in STOPPED (R51, R58). -/
def State.frameCollision (s : State) : State :=
  let s := s.countTrunk fun c => { c with headCollisions := c.headCollisions + 1 }
  let s := s.onQueues Queues.abort
  if s.engine.trunk == .stopping then s.enterStopped
  else match s.engine.phase with
    | some .sending => (s.raiseRecovery none .collision s.engine.index).toQuieting
    | some .floor => (s.raiseRecovery none .collision s.engine.index).suspendFill
    | _ => s

/-- OVERRUN at the engine: an outcome in RECEIVING, an overrun outside a call in QUIETING, TURNAROUND and FLOOR,
nothing otherwise (R26, R45, R55, R56). -/
def State.engineOverrun (s : State) : State :=
  match s.engine.phase with
  | some .receiving => s.endCall .overrun
  | some .quieting | some .turnaround | some .floor => s.enterBlocked none .lineOverrun
  | _ => s

/-! ### The engine's timers -/

/-- The end of a marker: ROUND_START leads to TURNAROUND, CALL to AWAITING with its answer window (R32, R36,
R37). -/
def State.markerSent (s : State) : State :=
  match s.engine.phase with
  | some .roundMark => s.toTurnaround
  | some .calling =>
    let window := ((s.currentEntry.bind RoundEntry.window).getD s.store.active.header.answerWindow) * bitTime
    let s := s.countStation s.calledStation fun c => { c with callsIssued := c.callsIssued + 1 }
    s.onEngine fun e => { e.enter .awaiting with timer := some (s.now + window) }
  | _ => s

/-- The end of a marker's transmission (R92). -/
def State.endMarker (s : State) : State :=
  match s.line.tx with
  | some ⟨.marker _, ends⟩ => ((s.reach ends).stopTx false).markerSent
  | _ => s

/-- MARKER_END (R92). -/
def execMarkerEnd (s : State) : Host.Outcome State Fault Refusal := takeEvent State.endMarker s

/-- Whether every queue the current head entry selects is empty (R49). -/
def selectedEmpty (s : State) : Bool :=
  match s.currentEntry with
  | none => true
  | some e => (drainQueue e.drain s.queues).isNone

/-- The next step at the end of a head frame's transmission (R49, R50, R58; in STOPPING R28). -/
def State.frameSent (s : State) : State :=
  if s.engine.trunk == .stopping then s.enterStopped
  else match s.engine.phase with
    | some .sending =>
      if s.engine.credit == 0 || selectedEmpty s then s.toTurnaround
      else s.onEngine fun e => { e with gap := some (s.now + interFrameGap) }
    | some .floor => s.onEngine fun e => { e with gap := some (s.now + interFrameGap) }
    | _ => s

/-- The end of a head frame's or fill frame's transmission (R50, R93). -/
def State.endHeadFrame (s : State) : State :=
  match s.line.tx with
  | some ⟨.frame, ends⟩ =>
    (((s.reach ends).stopTx false).onQueues (Queues.releaseTrunk QueueCounters.transmit)).frameSent
  | _ => s

/-- HEAD_FRAME_END (R50). -/
def execHeadFrameEnd (s : State) : Host.Outcome State Fault Refusal := takeEvent State.endHeadFrame s

/-- The answer window expires in AWAITING: MISSED (R37). -/
def State.expireAnswer (s : State) : State :=
  match s.engine.phase, s.engine.timer with
  | some .awaiting, some t => (s.reach t).endCall .missed
  | _, _ => s

/-- ANSWER_WINDOW_EXPIRY (R37). -/
def execAnswerWindowExpiry (s : State) : Host.Outcome State Fault Refusal := takeEvent State.expireAnswer s

/-- The continue window expires in CONTINUING or CLOSING: ANSWERED (R40). -/
def State.expireContinue (s : State) : State :=
  match s.engine.phase, s.engine.timer with
  | some .continuing, some t => (s.reach t).endCall .answered
  | some .closing, some t => (s.reach t).endCall .answered
  | _, _ => s

/-- CONTINUE_WINDOW_EXPIRY (R40). -/
def execContinueWindowExpiry (s : State) : Host.Outcome State Fault Refusal := takeEvent State.expireContinue s

/-- The turnaround ends and the next entry is started (R52). -/
def State.endTurnaround (s : State) : State :=
  match s.engine.phase, s.engine.timer with
  | some .turnaround, some t => (s.reach t).startEntry
  | _, _ => s

/-- TURNAROUND_END (R52). -/
def execTurnaroundEnd (s : State) : Host.Outcome State Fault Refusal := takeEvent State.endTurnaround s

/-- The end of the gap: a head entry takes its next frame or ends, and the next entry is started; in FLOOR the
fill considers the front of DX (R49, R58). -/
def State.afterGap (s : State) : State :=
  let s := s.onEngine fun e => { e with gap := none }
  match s.engine.phase with
  | some .sending =>
    match s.currentEntry.bind fun e => drainQueue e.drain s.queues with
    | some q => s.takeHeadFrame q
    | none => s.startEntry
  | some .floor => s.considerFill
  | _ => s

/-- The inter-frame gap ends (R49). -/
def State.endGap (s : State) : State :=
  match s.engine.gap with
  | some t => (s.reach t).afterGap
  | none => s

/-- INTER_FRAME_GAP_END (R49). -/
def execInterFrameGapEnd (s : State) : Host.Outcome State Fault Refusal := takeEvent State.endGap s

/-- The trunk enters RUNNING: TRUNK_STATE, then a round boundary (R26, R56). -/
def State.enterRunning (cause : TrunkCause) (s : State) : State :=
  (((s.onEngine fun e => { e with quietFrom := none }).enterTrunk .running).raiseTrunkState cause).roundBoundary

/-- The fill resumes (R59); a gap that is over by now runs no more. -/
def State.resumeFill (s : State) : State :=
  (s.onEngine fun e =>
    { e with fillSuspended := false, quietFrom := none,
             gap := if (e.gap.getD 0) ≤ s.now then none else e.gap }).considerFill

/-- What a quiet interval ends (R23, R26, R54, R56, R57, R59). -/
def State.quietSeen (s : State) : State :=
  match s.engine.trunk with
  | .starting => s.enterRunning .started
  | .blocked => s.enterRunning .resumed
  | _ =>
    match s.engine.phase with
    | some .quieting => if s.engine.toBoundary then s.roundBoundary else s.startEntry
    | some .floor => s.resumeFill
    | _ => s

/-- The moment a quiet interval is seen: 256 BT after the later of the entry into the wait and the last
CARRIER_OFF; none while nothing waits or carrier is on (R23). -/
def quietMoment (s : State) : Option Nat :=
  if s.carrier then none
  else s.engine.quietFrom.map fun t => max t (s.line.lastOff.getD 0) + quietLength

/-- A quiet interval is seen (R23). -/
def State.seeQuiet (s : State) : State :=
  match quietMoment s with
  | some t => (s.reach t).quietSeen
  | none => s

/-- QUIET_INTERVAL (R23). -/
def execQuietInterval (s : State) : Host.Outcome State Fault Refusal := takeEvent State.seeQuiet s

/-- The floor expires: QUIETING towards the boundary if the fill is suspended, else the boundary (R57). -/
def State.floorPassed (s : State) : State :=
  if s.engine.fillSuspended then s.toQuieting.onEngine fun e => { e with toBoundary := true }
  else s.roundBoundary

/-- The floor expires in FLOOR of a running trunk; a fill frame on air ends no later than the floor, so the
expiry does not fall while one is (R57, R58; log 14). -/
def State.expireFloor (s : State) : State :=
  if s.engine.trunk == .running && s.engine.phase == some .floor && s.line.tx.isNone then
    match floorExpiry s with
    | some t => (s.reach t).floorPassed
    | none => s
  else s

/-- FLOOR_EXPIRY (R57). -/
def execFloorExpiry (s : State) : Host.Outcome State Fault Refusal := takeEvent State.expireFloor s

/-! ### START_TRUNK, STOP_TRUNK, READ_TRUNK (R25, R27, R29) -/

/-- START_TRUNK (R25). The quiet interval is counted from the moment of the request itself, which need not be an edge of
TK_CLK: DESIGN CHOICE, unsafe (log 25). -/
def answerStartTrunk (_q : Request) (s : State) : Answer :=
  if s.engine.trunk != .stopped then refuse .wrongState [] s
  else if s.store.active.entries.isEmpty then refuse .noTable [] s
  else okWith [TrunkState.code .starting]
    ((s.onEngine fun e => { e with quietFrom := some s.now }).enterTrunk .starting)

/-- Whether a call is in flight past its CALL, or a head frame is on air (R27). -/
def inFlight (s : State) : Bool :=
  match s.engine.phase with
  | some .awaiting | some .receiving | some .continuing | some .closing => true
  | some .sending | some .floor => s.line.tx.isSome
  | _ => false

/-- A stop at once: a marker is cut short, and the trunk enters STOPPED (R27, R84). -/
def State.stopNow (s : State) : State := (if s.line.tx.isSome then s.stopTx false else s).enterStopped

/-- The part after STOP_TRUNK (R27). -/
def State.stopTrunk (s : State) : State :=
  match s.engine.trunk with
  | .running => if inFlight s then s.enterTrunk .stopping else s.stopNow
  | .starting | .blocked => s.stopNow
  | .stopping | .stopped => s

/-- STOP_TRUNK (R27). -/
def answerStopTrunk (_q : Request) (s : State) : Answer := okWith [s.stopTrunk.engine.trunk.code] s.stopTrunk

/-- The µs left to the floor expiry, rounded down, in RUNNING and STOPPING while it is ahead (R29). -/
def floorRemaining (s : State) : Option Nat :=
  if s.engine.trunk == .running || s.engine.trunk == .stopping then
    (floorExpiry s).bind fun t => if s.now < t then some ((t - s.now) / microsecond) else none
  else none

/-- The trunk status item (R29, R211). Presence bits 2 to 7, for which the spec gives no value, are 0: DESIGN CHOICE,
unsafe (log 22). -/
def trunkStatusBytes (s : State) : List Byte :=
  [s.engine.trunk.code, (s.engine.phase.map Phase.code).getD 0xFF, s.engine.round, s.store.generation,
   flagByte s.store.armed,
   byteOf ((if s.engine.index.isSome then 1 else 0) + (if (floorRemaining s).isSome then 2 else 0)),
   byteOf (s.engine.index.getD 0xFF)] ++ bytes2 ((floorRemaining s).getD 0)

/-- READ_TRUNK (R29). -/
def answerReadTrunk (_q : Request) (s : State) : Answer := okWith (trunkStatusBytes s) s

/-- The row of START_TRUNK. -/
def rowStartTrunk : RequestRow :=
  { names := hasCode 0x21, permission := .write, fits := hasSize 0, answer := answerStartTrunk }

/-- The row of STOP_TRUNK. -/
def rowStopTrunk : RequestRow :=
  { names := hasCode 0x22, permission := .write, fits := hasSize 0, answer := answerStopTrunk }

/-- The row of READ_TRUNK. -/
def rowReadTrunk : RequestRow :=
  { names := hasCode 0x20, permission := .read, fits := hasSize 0, answer := answerReadTrunk }

/-- START_TRUNK (R25). -/
def execStartTrunk (dt : Nat) (s : State) : Host.Outcome State Fault Refusal := takeRequestEvent rowStartTrunk dt s

/-- STOP_TRUNK (R27). -/
def execStopTrunk (dt : Nat) (s : State) : Host.Outcome State Fault Refusal := takeRequestEvent rowStopTrunk dt s

/-- READ_TRUNK (R29). -/
def execReadTrunk (dt : Nat) (s : State) : Host.Outcome State Fault Refusal := takeRequestEvent rowReadTrunk dt s

/-! ### LED_TRUNK (R213) -/

/-- A lit or dark stretch of the flash expires (R213). -/
def State.flashLed (s : State) : State :=
  match s.led.stretch, flashStretch s.engine.trunk with
  | some t, some len =>
    let s := s.reach t
    s.onLed fun l => { lit := !l.lit, stretch := some (s.now + len) }
  | _, _ => s

/-- LED_TRUNK_FLASH (R213). -/
def execLedTrunkFlash (s : State) : Host.Outcome State Fault Refusal := takeEvent State.flashLed s

end Sys2Proof.Machine
end

