-- ==== Sys2Proof/Machine/TrunkLine.lean ====
section
/-! DEFINITION. The Trunk Line Interface's events: carrier, bursts, collision, overrun, the end of the echo
allowance (R82 to R90). -/

namespace Sys2Proof.Machine

/-- Whether an echo allowance runs (R83). One whose end has passed without ECHO_ALLOWANCE_END counts as over,
with TK_CRS and TK_COL low at its end (log 11). -/
def State.echoRunning (s : State) : Bool :=
  match s.line.echo with
  | some e => s.now < e.ends
  | none => false

/-- A burst begins at the present moment (R83); `fromCol` says that TK_COL began it. -/
def State.beginBurst (fromCol : Bool) (s : State) : State :=
  s.onLine fun l => { l with echo := none, burst := some { start := s.now, fromCol := fromCol } }

/-- A COLLISION in the burst that is held, at most once in it (R89). -/
def State.burstCollision (s : State) : State :=
  match s.line.burst with
  | some b =>
    if b.collision then s
    else (s.onLine fun l => { l with burst := some { b with collision := true } }).engineBurstCollision
  | none => s

/-! ### CARRIER_ON (R85) -/

/-- TK_CRS rises: a burst begins, unless the head sends, an echo allowance runs or a burst is held (R83, R85). -/
def State.carrierRises (s : State) : State :=
  if s.line.tx.isSome || s.echoRunning || s.carrier then s else (s.beginBurst false).engineCarrierOn

/-- CARRIER_ON (R85). -/
def execCarrierOn (dt : Nat) (s : State) : Host.Outcome State Fault Refusal :=
  takeEvent State.carrierRises ((s.pass dt).onPins fun p => { p with tkCrs := true })

/-! ### CARRIER_OFF (R85 to R88) -/

/-- The interface's own counter of a burst's class (R87). -/
def BurstClass.count (k : BurstClass) (c : TrunkCounters) : TrunkCounters :=
  match k with
  | .badMarker => { c with badMarkers := c.badMarkers + 1 }
  | .marker m =>
    if m.type == roundStartType || m.type == callType then { c with foreignMarkers := c.foreignMarkers + 1 }
    else c
  | .validFrame _ | .badFrame _ | .noise => c

/-- A burst ends with its bits; its class is counted and delivered (R85 to R88). -/
def State.endBurst (b : Burst) (bits : List Bool) (s : State) : State :=
  let k := Burst.classify { b with bits := bits }
  ((s.onLine fun l => { l with burst := none, lastOff := some s.now }).countTrunk k.count).engineCarrierOff k

/-- TK_CRS is low: the burst ends, but for one that TK_COL began, which ends when TK_COL is low too (R85). -/
def State.carrierFalls (col : Bool) (bits : List Bool) (s : State) : State :=
  match s.line.burst with
  | some b => if b.fromCol && col then s else s.endBurst b bits
  | none => s

/-- CARRIER_OFF (R85). -/
def execCarrierOff (dt : Nat) (col : Bool) (bits : List Bool) (s : State) : Host.Outcome State Fault Refusal :=
  takeEvent (State.carrierFalls col bits)
    ((s.pass dt).onPins fun p => { p with tkCrs := false, tkCol := col })

/-! ### COLLISION (R85, R89) -/

/-- A COLLISION in the head's own sending: the transmission is cut, with no jam (R89). -/
def State.headCollision (content : TrunkContent) (s : State) : State :=
  match content with
  | .marker _ => (s.stopTx true).markerCollision
  | .frame => (s.stopTx true).frameCollision

/-- TK_COL begins a burst: CARRIER_ON and then COLLISION (R85). -/
def State.collisionBurst (s : State) : State := ((s.beginBurst true).engineCarrierOn).burstCollision

/-- TK_COL rises (R85, R89): in the head's sending, in a burst, in an echo allowance, or on a quiet line. -/
def State.collisionRises (s : State) : State :=
  match s.line.tx with
  | some t => s.headCollision t.content
  | none =>
    if s.carrier then s.burstCollision
    else if s.echoRunning then
      s.onLine fun l => { l with echo := l.echo.map fun e => { e with colRose := true } }
    else s.collisionBurst

/-- COLLISION (R89). -/
def execCollision (dt : Nat) (s : State) : Host.Outcome State Fault Refusal :=
  takeEvent State.collisionRises ((s.pass dt).onPins fun p => { p with tkCol := true })

/-! ### OVERRUN (R90) -/

/-- The carrier of a burst reaches the overrun limit, once for the burst (R90). -/
def State.burstOverrun (s : State) : State :=
  match s.line.burst with
  | some b =>
    if b.overrun then s
    else ((s.reach (b.start + overrunLimit)).onLine fun l =>
      { l with burst := some { b with overrun := true } }).engineOverrun
  | none => s

/-- OVERRUN (R90). -/
def execOverrun (s : State) : Host.Outcome State Fault Refusal := takeEvent State.burstOverrun s

/-! ### ECHO_ALLOWANCE_END (R84, R85) -/

/-- TK_CRS is still on at the end of the echo allowance: a burst begins; CARRIER_ON is delivered unless a
COLLISION cut the transmission (R84). -/
def State.echoCarrier (cut : Bool) (s : State) : State :=
  if cut then s.beginBurst false else (s.beginBurst false).engineCarrierOn

/-- The echo allowance `e` is over, with TK_CRS and TK_COL at these levels. A rise of TK_COL while it ran is
taken now if TK_COL is still high (R84, R85). -/
def State.echoOver (e : Echo) (crs col : Bool) (s : State) : State :=
  let s := s.onLine fun l => { l with echo := none }
  if crs then
    let s := s.echoCarrier e.cut
    if e.colRose && col then s.burstCollision else s
  else if e.colRose && col then s.collisionBurst
  else s

/-- The end of the echo allowance that runs (R84); one whose end has passed is over already (log 11). -/
def State.endEcho (crs col : Bool) (s : State) : State :=
  match s.line.echo with
  | some e =>
    if s.now ≤ e.ends then
      ((s.reach e.ends).onPins fun p => { p with tkCrs := crs, tkCol := col }).echoOver e crs col
    else s
  | none => s

/-- ECHO_ALLOWANCE_END (R84). -/
def execEchoAllowanceEnd (crs col : Bool) (s : State) : Host.Outcome State Fault Refusal :=
  takeEvent (State.endEcho crs col) s

end Sys2Proof.Machine
end

