-- ==== Sys2Proof/Machine/Restart.lean ====
section
/-! DEFINITION. Resets as events: the beginning of a reset (R82, R138, R204, R205), shared by the uplink port and
the reset commands. -/

namespace Sys2Proof.Machine

/-- The link state through the beginning of a reset: SOFT keeps it, POWER and PIN end with it DOWN (R204). -/
def ResetKind.keptLink (k : ResetKind) (link : Bool) : Bool :=
  match k with
  | .soft => link
  | .power | .pin => false

/-- A reset begins: every transmission and every reception is cut, a call in flight gets no outcome, a waiting
SOFT reset is cleared, LED_TRUNK is dark (R204, R213; log 7). -/
def State.beginReset (k : ResetKind) (s : State) : State :=
  { s with
    resetRun := some { kind := k, began := s.now },
    engine := {},
    line := {},
    uplink := { s.uplink with link := k.keptLink s.uplink.link, receiving := false, tx := .idle },
    agent := { s.agent with softReset := false },
    led := {} }

end Sys2Proof.Machine
end

