-- ==== Sys2Proof/Machine/UplinkPort.lean ====
section
/-! DEFINITION. The Uplink Port's events: link events with the teardown (R148, R149), reception (R140 to R142), the
ends of transmissions and gaps (R143, R146). -/

namespace Sys2Proof.Machine

/-- A counter of the PORTS set advances. -/
def State.countPorts (f : PortCounters → PortCounters) (s : State) : State :=
  s.onUplink fun u => { u with counters := f u.counters }

/-! ### Link events (R148, R149) -/

/-- A link UP event (R148); the arbiter acts at its end (R144). -/
def State.linkRises (s : State) : State :=
  if s.uplink.link then s else s.onUplink fun u => { u with link := true }

/-- LINK_UP (R148): the level of LINK is up from now on. -/
def execLinkUp (dt : Nat) (s : State) : Host.Outcome State Fault Refusal :=
  takeEvent State.linkRises ((s.pass dt).onPins fun p => { p with link := true })

/-- Step 1 of the teardown: the link state is DOWN, a reception and a transmission in progress are cut (R149). -/
def State.cutUplink (s : State) : State :=
  s.onUplink fun u => { u with link := false, receiving := false, tx := .idle }

/-- A flushed frame (R133). -/
def QueueCounters.flushOne (c : QueueCounters) : QueueCounters := { c with flushed := c.flushed + 1 }

/-- Step 2 of the teardown: UQ and the uplink on-air slot are emptied, every frame counted as flushed (R133). -/
def Queues.teardown (qs : Queues) : Queues := (qs.flush .uq).releaseUplink QueueCounters.flushOne

/-- Whether a request came from the uplink (R155). -/
def InputEntry.fromUplink (e : InputEntry) : Bool := e.origin == .uplink

/-- Steps 3 and 4 of the teardown at the agent: the output list is cleared, the uplink-origin requests are
removed, every session ends (R149). -/
def Agent.teardown (a : Agent) : Agent :=
  { a with
    output := [],
    input := a.input.filter fun e => !e.fromUplink,
    sessions := [],
    counters := { a.counters with
      responsesDropped := a.counters.responsesDropped + BitVec.ofNat 32 a.output.length } }

/-- Steps 3 and 4 of the teardown, with the port's management dropped counter (R149). -/
def State.cutAgent (s : State) : State :=
  (s.countPorts fun c =>
    { c with mgmtDropped := c.mgmtDropped
               + BitVec.ofNat 32 (s.agent.input.filter InputEntry.fromUplink).length }).onAgent Agent.teardown

/-- Step 5 of the teardown: a lease that is held ends with cause LINK_DOWN (R149). -/
def State.cutLease (s : State) : State :=
  match s.agent.lease with
  | none => s
  | some l => s.endLease.raiseLeaseEnded .linkDown l.tag

/-- Step 6 of the teardown: a waiting SOFT reset takes place (R149, R176). -/
def State.waitingReset (s : State) : State := if s.agent.softReset then s.beginReset .soft else s

/-- The teardown, as one event and in this order (R149). -/
def State.teardown (s : State) : State :=
  ((s.cutUplink.onQueues Queues.teardown).cutAgent.cutLease).waitingReset

/-- A link DOWN event (R149). -/
def State.linkFalls (s : State) : State := if s.uplink.link then s.teardown else s

/-- LINK_DOWN (R149): the level of LINK is down from now on. -/
def execLinkDown (dt : Nat) (s : State) : Host.Outcome State Fault Refusal :=
  takeEvent State.linkFalls ((s.pass dt).onPins fun p => { p with link := false })

/-! ### Reception (R140 to R142) -/

/-- Whether the groups received since the rise of UL_RXDV end with the start delimiter, and it is the first that
follows a byte of the preamble pattern (R140). Bytes are counted from the rise of UL_RXDV: DESIGN CHOICE, unsafe
(log 23). -/
def endsPreamble (groups : List (BitVec 4)) : Bool :=
  groups.length % 2 == 0 && firstDelimiter (bytesOfGroups groups) == some (bytesOfGroups groups).length

/-- The receiver begins a frame at the start delimiter while the link state is UP; what came before is discarded
(R140). -/
def State.beginReception (groups : List (BitVec 4)) (s : State) : State :=
  if s.uplink.link && endsPreamble groups then s.onUplink fun u => { u with receiving := true } else s

/-- RECEIVER_BEGINS_FRAME (R140). -/
def execReceiverBeginsFrame (heard : Nat × List (BitVec 4)) (s : State) : Host.Outcome State Fault Refusal :=
  takeEvent (State.beginReception heard.2) (s.pass heard.1)

/-- A management frame addressed to the part (R141). -/
def addressedToPart (bytes : List Byte) (s : State) : Bool :=
  frameType bytes == mgmtType
    && (frameDst bytes == s.identity.factory || frameDst bytes == Config.groupAddress)

/-- A management frame is offered to the agent's input list (R141). -/
def State.offerManagement (bytes : List Byte) (s : State) : State :=
  if mgmtMaxLength < bytes.length || Config.inputPlaces ≤ s.agent.input.length then
    s.countPorts fun c => { c with mgmtDropped := c.mgmtDropped + 1 }
  else
    (s.countPorts fun c => { c with mgmtTaken := c.mgmtTaken + 1 }).onAgent fun a =>
      { a with input := a.input ++ [⟨.uplink, bytes⟩] }

/-- A good frame is recognised (R141) or presented to the Admission Unit (R142). -/
def State.goodFrame (bytes : List Byte) (s : State) : State :=
  if addressedToPart bytes s then s.offerManagement bytes
  else s.present { bytes := bytes, station := none }

/-- The completion of an uplink frame: its checks in the order of R140. -/
def State.checkFrame (bytes : List Byte) (rxError : Bool) (s : State) : State :=
  if bytes.length < 64 || 1522 < bytes.length then
    s.countPorts fun c => { c with lengthErrors := c.lengthErrors + 1 }
  else if rxError || !fcsCorrect bytes then
    s.countPorts fun c => { c with fcsErrors := c.fcsErrors + 1 }
  else (s.countPorts fun c => { c with rxGood := c.rxGood + 1 }).goodFrame bytes

/-- The fall of receive data valid in a reception: the frame is the whole bytes of its groups (R140). Without a
reception there was no start delimiter, and the stretch is counted nowhere. -/
def State.completeReception (groups : List (BitVec 4)) (rxError : Bool) (s : State) : State :=
  if s.uplink.receiving then
    (s.onUplink fun u => { u with receiving := false }).checkFrame (bytesOfGroups groups) rxError
  else s

/-- RECEIVE_COMPLETION (R140). -/
def execReceiveCompletion (dt : Nat) (groups : List (BitVec 4)) (rxError : Bool) (s : State) :
    Host.Outcome State Fault Refusal :=
  takeEvent (State.completeReception groups rxError) (s.pass dt)

/-! ### Transmission (R143, R146) -/

/-- The transmitter enters GAP (R143). -/
def State.enterGap (s : State) : State := s.onUplink fun u => { u with tx := .gap (s.now + uplinkGap) }

/-- The end of a response's transmission: it leaves the output list; the answer to a RESET_DEVICE starts the SOFT
reset that waits for it (R146, R176). -/
def State.responseSent (s : State) : State :=
  let resets := (s.agent.output.head?.map OutputEntry.answersReset).getD false && s.agent.softReset
  let s := (s.countPorts fun c => { c with txResponses := c.txResponses + 1 }).onAgent fun a =>
    { a with output := a.output.tail }
  if resets then s.beginReset .soft else s.enterGap

/-- The send of a notice is recorded in the record that holds its number (R188). -/
def Notice.recordSend (retry : Nat) (n : Notice) : Notice :=
  { n with sends := saturate 65535 (n.sends + 1), retry := some retry }

/-- The end of a NOTICE frame's transmission at the Notice List (R188). -/
def NoticeList.recordSend (number : BitVec 16) (retry : Nat) (l : NoticeList) : NoticeList :=
  if l.records.any (·.number == number) then
    { l with records := l.records.map fun r => if r.number == number then r.recordSend retry else r,
             counters := { l.counters with sendsRecorded := l.counters.sendsRecorded + 1 } }
  else l

/-- The end of a notice's transmission (R146, R188). -/
def State.noticeSent (number : BitVec 16) (s : State) : State :=
  ((s.countPorts fun c => { c with txNotices := c.txNotices + 1 }).onNotices
    (NoticeList.recordSend number (s.now + retryDelay))).enterGap

/-- The end of a UQ frame's transmission (R131, R146). -/
def State.forwardedSent (s : State) : State :=
  ((s.onQueues (Queues.releaseUplink QueueCounters.transmit)).countPorts fun c =>
    { c with txForwarded := c.txForwarded + 1 }).enterGap

/-- The end of a transmission, told to its source (R146). -/
def State.sourceSent (source : UplinkSource) (s : State) : State :=
  match source with
  | .response => s.responseSent
  | .notice number _ => s.noticeSent number
  | .forwarded => s.forwardedSent

/-- The end of the uplink transmission in progress (R146). -/
def State.endTransmission (s : State) : State :=
  match s.uplink.tx with
  | .sending source ends => (s.reach ends).sourceSent source
  | .idle | .gap _ => s

/-- UPLINK_TRANSMISSION_END (R146). -/
def execUplinkTransmissionEnd (s : State) : Host.Outcome State Fault Refusal := takeEvent State.endTransmission s

/-- The end of GAP: the transmitter is free and enters IDLE; the arbiter acts (R143, R144). -/
def State.endUplinkGap (s : State) : State :=
  match s.uplink.tx with
  | .gap ends => (s.reach ends).onUplink fun u => { u with tx := .idle }
  | .idle | .sending _ _ => s

/-- UPLINK_GAP_END (R143). -/
def execUplinkGapEnd (s : State) : Host.Outcome State Fault Refusal := takeEvent State.endUplinkGap s

end Sys2Proof.Machine
end

