-- ==== Sys2Proof/Machine/Resets.lean ====
section
/-! DEFINITION. The reset commands: power, RSTN, the settling of the supply and the end of a reset (R204 to R206).
They act during a reset too. -/

namespace Sys2Proof.Machine

/-- Power is applied: a POWER reset begins, or the reset in progress becomes one (R205). Power applied again
starts the settling anew (log 18). -/
def State.applyPower (s : State) : State :=
  match s.resetRun with
  | none => s.beginReset .power
  | some r =>
    ({ s with resetRun := some { r with kind := .power, settled := none } }).onUplink fun u =>
      { u with link := false }

/-- POWER_APPLIED (R205). -/
def execPowerApplied (dt : Nat) (s : State) : Host.Outcome State Fault Refusal := .next (s.pass dt).applyPower

/-- The kind of a reset in which RSTN is asserted: SOFT becomes PIN (R205). -/
def ResetKind.withPin (k : ResetKind) : ResetKind :=
  match k with
  | .soft => .pin
  | .pin => .pin
  | .power => .power

/-- RSTN has been held low for 1 µs: a PIN reset begins, a SOFT reset becomes one, another is extended (R205). -/
def State.assertRstn (s : State) : State :=
  match s.resetRun with
  | none => s.beginReset .pin
  | some r =>
    ({ s with resetRun := some { r with kind := r.kind.withPin, released := none } }).onUplink fun u =>
      { u with link := false }

/-- RSTN_ASSERTED (R205). -/
def execRstnAsserted (dt : Nat) (s : State) : Host.Outcome State Fault Refusal :=
  .next ((s.pass dt).assertRstn.onPins fun p => { p with rstn := false })

/-- The 20 µs that end a PIN reset begin, if RSTN was low (R204, R205). -/
def State.releaseRstn (s : State) : State :=
  if s.pins.rstn then s
  else { s with resetRun := s.resetRun.map fun r => { r with released := some s.now } }

/-- RSTN_DEASSERTED (R204). -/
def execRstnDeasserted (dt : Nat) (s : State) : Host.Outcome State Fault Refusal :=
  .next ((s.pass dt).releaseRstn.onPins fun p => { p with rstn := true })

/-- The supply settles in a POWER reset (R204). -/
def ResetRun.settle (now : Nat) (r : ResetRun) : ResetRun :=
  if r.kind == .power && r.settled.isNone then { r with settled := some now } else r

/-- SUPPLY_SETTLED (R204). -/
def execSupplySettled (dt : Nat) (s : State) : Host.Outcome State Fault Refusal :=
  let s := s.pass dt
  .next { s with resetRun := s.resetRun.map (ResetRun.settle s.now) }

/-- The moment a reset ends by the table of R204; none while RSTN is low or the supply has not settled. A POWER
reset in which RSTN was asserted ends at the later of both ends (R205). -/
def resetEndMoment (rstn : Bool) (r : ResetRun) : Option Nat :=
  match r.kind with
  | .soft => some (r.began + shortResetTime)
  | .pin => if rstn then r.released.map (· + shortResetTime) else none
  | .power =>
    if rstn then
      r.settled.map fun t => max (t + powerResetTime) ((r.released.map (· + shortResetTime)).getD 0)
    else none

/-- The part right after a reset (R204, R206): every block at its reset values, the cause recorded, RESTARTED
raised (R193); a SOFT reset keeps the link state (R139). -/
def State.afterReset (k : ResetKind) (s : State) : State :=
  { State.reset with
    pending := s.pending,
    now := s.now,
    pins := s.pins,
    uplink := { link := k.keptLink s.uplink.link },
    notices := .restarted k.code,
    identity := { factory := s.identity.factory, cause := k, secondStart := s.now } }

/-- A reset that ends with TK_CRS on begins a burst; CARRIER_ON meets an engine in STOPPED (R84). -/
def State.resetCarrier (crs : Bool) (s : State) : State :=
  if crs then (s.beginBurst false).engineCarrierOn else s

/-- The level of LINK at the end of a reset is taken as a link event if it is not the link state (R139, R206). Only that
level counts: two opposite changes within one SOFT reset give no event: DESIGN CHOICE, unsafe (log 26). -/
def State.resetLink (link : Bool) (s : State) : State := if link then s.linkRises else s.linkFalls

/-- The end of a reset, and the events taken with it, with the arbiter at the end of each (R84, R139, R204;
log 9). -/
def State.finishReset (k : ResetKind) (crs link : Bool) (s : State) : State :=
  let s := s.onPins fun p => { p with link := link, tkCrs := crs }
  (((s.afterReset k).resetCarrier crs).arbitrate.resetLink link).arbitrate

/-- The end of the reset in progress, at its moment. -/
def State.endReset (crs link : Bool) (s : State) : State :=
  match s.resetRun with
  | none => s
  | some r =>
    match resetEndMoment s.pins.rstn r with
    | none => s
    | some t => (s.reach t).finishReset r.kind crs link

/-- RESET_END (R204). -/
def execResetEnd (crs link : Bool) (s : State) : Host.Outcome State Fault Refusal := .next (s.endReset crs link)

end Sys2Proof.Machine
end

