-- ==== Sys2Proof/Machine/RoundTables.lean ====
section
/-! DEFINITION. The five requests on the round table banks (R6 to R14). -/

namespace Sys2Proof.Machine

/-- READ_ROUND (R6, R7). -/
def answerReadRound (q : Request) (s : State) : Answer :=
  let first := numAt q.body 1
  let count := numAt q.body 2
  if 2 ≤ numAt q.body 0 then refuseRange .selector 0xFF s
  else if 64 ≤ first then refuseRange .first 0xFF s
  else
    let bank := if numAt q.body 0 == 0 then s.store.active else s.store.pending
    let entries := (bank.entries.drop first).take count
    okWith ([byteAt q.body 0, s.store.generation, flagByte s.store.armed, byteOf bank.entries.length]
      ++ bank.header.bytes ++ [byteOf first, byteOf entries.length] ++ entries.flatMap RoundEntry.bytes) s

/-- WRITE_ROUND's entries as carried: `k` items of four bytes after `f`, `k` and `n` (R210). -/
def writeRoundItems (body : List Byte) : List (List Byte) := itemsOf 4 (numAt body 1) (body.drop 3)

/-- The entries of PENDING after a WRITE_ROUND (R9). -/
def writeEntries (f n : Nat) (new old : List RoundEntry) : List RoundEntry :=
  (old.take f ++ new ++ old.drop (f + new.length)).take n

/-- WRITE_ROUND (R8, R9). -/
def answerWriteRound (q : Request) (s : State) : Answer :=
  let f := numAt q.body 0
  let k := numAt q.body 1
  let n := numAt q.body 2
  let old := s.store.pending.entries
  if s.store.armed then refuse .pendingLocked [] s
  else if old.length < f then refuseRange .first 0xFF s
  else if 64 < f + k then refuseRange .count 0xFF s
  else if 64 < n || max old.length (f + k) < n then refuseRange .length 0xFF s
  else match firstFailing roundEntryValid (writeRoundItems q.body) with
    | some i => refuseRange .entry (byteOf (f + i)) s
    | none =>
      let entries := writeEntries f n ((writeRoundItems q.body).map roundEntryOf) old
      okWith [byteOf entries.length]
        (s.onStore fun st => { st with pending := { st.pending with entries := entries } })

/-- The first parameter of a header that is out of its range (R3, R10). -/
def headerFails (h : Header) : Option RangeItem :=
  if h.answerWindow < 16 || 255 < h.answerWindow then some .answerWindow
  else if h.continueWindow < 32 || 255 < h.continueWindow then some .continueWindow
  else if h.missLimit < 1 || 15 < h.missLimit then some .missLimit
  else if h.strikeLimit < 1 || 7 < h.strikeLimit then some .strikeLimit
  else if h.probePeriod < 1 || 255 < h.probePeriod then some .probePeriod
  else none

/-- SET_ROUND_PARAMS (R10). -/
def answerSetRoundParams (q : Request) (s : State) : Answer :=
  if s.store.armed then refuse .pendingLocked [] s
  else match headerFails (headerOf q.body) with
    | some item => refuseRange item 0xFF s
    | none => okWith [] (s.onStore fun st => { st with pending := { st.pending with header := headerOf q.body } })

/-- Whether an entry is a head entry or names an enrolled station (R11). -/
def entryEnrolled (s : State) (e : RoundEntry) : Bool := e.station == 0 || (s.station? e.station).isSome

/-- COMMIT_ROUND (R11 to R13). -/
def answerCommitRound (_q : Request) (s : State) : Answer :=
  if s.store.armed then refuse .pendingLocked [] s
  else if s.store.pending.entries.isEmpty then refuse .invalidTable [0x01] s
  else match firstFailing (entryEnrolled s) s.store.pending.entries with
    | some i => refuse .unknownStation [byteOf i] s
    | none =>
      if s.engine.trunk == .stopped then okWith [0x01, s.swap.store.generation] s.swap
      else okWith [0x02, s.store.generation] (s.onStore fun st => { st with armed := true })

/-- DISARM_ROUND (R14). -/
def answerDisarmRound (_q : Request) (s : State) : Answer :=
  if s.store.armed then okWith [] (s.onStore fun st => { st with armed := false })
  else refuse .notArmed [] s

/-- The row of READ_ROUND. -/
def rowReadRound : RequestRow :=
  { names := hasCode 0x10, permission := .read, fits := hasSize 3, answer := answerReadRound }

/-- The row of WRITE_ROUND; its body is 3 + 4k bytes (R207). -/
def rowWriteRound : RequestRow :=
  { names := hasCode 0x11, permission := .write,
    fits := fun body => 3 ≤ body.length && body.length == 3 + 4 * numAt body 1, answer := answerWriteRound }

/-- The row of SET_ROUND_PARAMS. -/
def rowSetRoundParams : RequestRow :=
  { names := hasCode 0x12, permission := .write, fits := hasSize 7, answer := answerSetRoundParams }

/-- The row of COMMIT_ROUND. -/
def rowCommitRound : RequestRow :=
  { names := hasCode 0x13, permission := .write, fits := hasSize 0, answer := answerCommitRound }

/-- The row of DISARM_ROUND. -/
def rowDisarmRound : RequestRow :=
  { names := hasCode 0x14, permission := .write, fits := hasSize 0, answer := answerDisarmRound }

/-- READ_ROUND (R6). -/
def execReadRound (dt : Nat) (s : State) : Host.Outcome State Fault Refusal := takeRequestEvent rowReadRound dt s

/-- WRITE_ROUND (R8). -/
def execWriteRound (dt : Nat) (s : State) : Host.Outcome State Fault Refusal :=
  takeRequestEvent rowWriteRound dt s

/-- SET_ROUND_PARAMS (R10). -/
def execSetRoundParams (dt : Nat) (s : State) : Host.Outcome State Fault Refusal :=
  takeRequestEvent rowSetRoundParams dt s

/-- COMMIT_ROUND (R11). -/
def execCommitRound (dt : Nat) (s : State) : Host.Outcome State Fault Refusal :=
  takeRequestEvent rowCommitRound dt s

/-- DISARM_ROUND (R14). -/
def execDisarmRound (dt : Nat) (s : State) : Host.Outcome State Fault Refusal :=
  takeRequestEvent rowDisarmRound dt s

end Sys2Proof.Machine
end

