-- ==== Sys2Proof/Machine/Rules.lean ====
section
/-! DEFINITION. The requests on the admission rules (R113 to R116). -/

namespace Sys2Proof.Machine

/-- The rules of a range with their indices (R113). -/
def rulesFrom (first count : Nat) (rules : List Rule) : List (Nat × Rule) :=
  (((List.range rules.length).zip rules).drop first).take count

/-- READ_RULES (R113). -/
def answerReadRules (q : Request) (s : State) : Answer :=
  let first := numAt q.body 0
  let count := numAt q.body 1
  let a := s.admission
  if 16 ≤ first then refuseRange .first 0xFF s
  else
    let rules := rulesFrom first count a.rules
    okWith ([a.defaultUp.code, a.defaultDown.code] ++ bytes4 a.hitsUp.toNat ++ bytes4 a.hitsDown.toNat
      ++ [byteOf first, byteOf rules.length] ++ rules.flatMap fun p => p.2.bytes p.1) s

/-- WRITE_RULES' rules as carried: `k` items of 18 bytes after `f` and `k` (R210). -/
def writeRuleItems (body : List Byte) : List (List Byte) := itemsOf 18 (numAt body 1) (body.drop 2)

/-- The rule table after a WRITE_RULES (R115). -/
def writeRules (f : Nat) (new old : List Rule) : List Rule := old.take f ++ new ++ old.drop (f + new.length)

/-- WRITE_RULES (R114, R115). -/
def answerWriteRules (q : Request) (s : State) : Answer :=
  let f := numAt q.body 0
  let k := numAt q.body 1
  if 16 < f + k then refuseRange .count 0xFF s
  else match firstFailing ruleItemValid (writeRuleItems q.body) with
    | some i => refuseRange .rule (byteOf (f + i)) s
    | none =>
      okWith [byteOf k]
        (s.onAdmission fun a => { a with rules := writeRules f ((writeRuleItems q.body).map ruleOf) a.rules })

/-- SET_DEFAULTS (R116): neither default may be AGENT. -/
def answerSetDefaults (q : Request) (s : State) : Answer :=
  if 3 ≤ numAt q.body 0 then refuseRange .default 0x00 s
  else if 3 ≤ numAt q.body 1 then refuseRange .default 0x01 s
  else okWith []
    (s.onAdmission fun a => { a with defaultUp := actionOfCode (numAt q.body 0),
                                     defaultDown := actionOfCode (numAt q.body 1) })

/-- The row of READ_RULES. -/
def rowReadRules : RequestRow :=
  { names := hasCode 0x40, permission := .read, fits := hasSize 2, answer := answerReadRules }

/-- The row of WRITE_RULES; its body is 2 + 18k bytes (R207). -/
def rowWriteRules : RequestRow :=
  { names := hasCode 0x41, permission := .write,
    fits := fun body => 2 ≤ body.length && body.length == 2 + 18 * numAt body 1, answer := answerWriteRules }

/-- The row of SET_DEFAULTS. -/
def rowSetDefaults : RequestRow :=
  { names := hasCode 0x42, permission := .write, fits := hasSize 2, answer := answerSetDefaults }

/-- READ_RULES (R113). -/
def execReadRules (dt : Nat) (s : State) : Host.Outcome State Fault Refusal := takeRequestEvent rowReadRules dt s

/-- WRITE_RULES (R115). -/
def execWriteRules (dt : Nat) (s : State) : Host.Outcome State Fault Refusal :=
  takeRequestEvent rowWriteRules dt s

/-- SET_DEFAULTS (R116). -/
def execSetDefaults (dt : Nat) (s : State) : Host.Outcome State Fault Refusal :=
  takeRequestEvent rowSetDefaults dt s

end Sys2Proof.Machine
end

