-- ==== Sys2Proof/Machine/Dispatch.lean ====
section
/-! DEFINITION. One arm for each command: a direct call of its meaning. -/

namespace Sys2Proof.Machine

def exec (i : Instr) (s : State) : Host.Outcome State Fault Refusal :=
  match i with
  | .identify dt => Sys2Proof.Machine.execIdentify dt s
  | .claim dt => Sys2Proof.Machine.execClaim dt s
  | .release dt => Sys2Proof.Machine.execRelease dt s
  | .resetDevice dt => Sys2Proof.Machine.execResetDevice dt s
  | .readRound dt => Sys2Proof.Machine.execReadRound dt s
  | .writeRound dt => Sys2Proof.Machine.execWriteRound dt s
  | .setRoundParams dt => Sys2Proof.Machine.execSetRoundParams dt s
  | .commitRound dt => Sys2Proof.Machine.execCommitRound dt s
  | .disarmRound dt => Sys2Proof.Machine.execDisarmRound dt s
  | .readTrunk dt => Sys2Proof.Machine.execReadTrunk dt s
  | .startTrunk dt => Sys2Proof.Machine.execStartTrunk dt s
  | .stopTrunk dt => Sys2Proof.Machine.execStopTrunk dt s
  | .readStations dt => Sys2Proof.Machine.execReadStations dt s
  | .enrolStation dt => Sys2Proof.Machine.execEnrolStation dt s
  | .withdrawStation dt => Sys2Proof.Machine.execWithdrawStation dt s
  | .setStationMute dt => Sys2Proof.Machine.execSetStationMute dt s
  | .setStationRestore dt => Sys2Proof.Machine.execSetStationRestore dt s
  | .setStationBind dt => Sys2Proof.Machine.execSetStationBind dt s
  | .setStationUnbind dt => Sys2Proof.Machine.execSetStationUnbind dt s
  | .readRules dt => Sys2Proof.Machine.execReadRules dt s
  | .writeRules dt => Sys2Proof.Machine.execWriteRules dt s
  | .setDefaults dt => Sys2Proof.Machine.execSetDefaults dt s
  | .readQueues dt => Sys2Proof.Machine.execReadQueues dt s
  | .setQueueLimits dt => Sys2Proof.Machine.execSetQueueLimits dt s
  | .flushQueue dt => Sys2Proof.Machine.execFlushQueue dt s
  | .readNotices dt => Sys2Proof.Machine.execReadNotices dt s
  | .ackNotices dt => Sys2Proof.Machine.execAckNotices dt s
  | .readCounters dt => Sys2Proof.Machine.execReadCounters dt s
  | .readCountersClear dt => Sys2Proof.Machine.execReadCountersClear dt s
  | .powerApplied dt => Sys2Proof.Machine.execPowerApplied dt s
  | .rstnAsserted dt => Sys2Proof.Machine.execRstnAsserted dt s
  | .resetEnd crs link => Sys2Proof.Machine.execResetEnd crs link s
  | .linkUp dt => Sys2Proof.Machine.execLinkUp dt s
  | .linkDown dt => Sys2Proof.Machine.execLinkDown dt s
  | .carrierOn dt => Sys2Proof.Machine.execCarrierOn dt s
  | .carrierOff dt col bits => Sys2Proof.Machine.execCarrierOff dt col bits s
  | .collision dt => Sys2Proof.Machine.execCollision dt s
  | .overrun => Sys2Proof.Machine.execOverrun s
  | .echoAllowanceEnd crs col => Sys2Proof.Machine.execEchoAllowanceEnd crs col s
  | .markerEnd => Sys2Proof.Machine.execMarkerEnd s
  | .headFrameEnd => Sys2Proof.Machine.execHeadFrameEnd s
  | .answerWindowExpiry => Sys2Proof.Machine.execAnswerWindowExpiry s
  | .continueWindowExpiry => Sys2Proof.Machine.execContinueWindowExpiry s
  | .turnaroundEnd => Sys2Proof.Machine.execTurnaroundEnd s
  | .interFrameGapEnd => Sys2Proof.Machine.execInterFrameGapEnd s
  | .quietInterval => Sys2Proof.Machine.execQuietInterval s
  | .floorExpiry => Sys2Proof.Machine.execFloorExpiry s
  | .receiveCompletion dt groups rxError => Sys2Proof.Machine.execReceiveCompletion dt groups rxError s
  | .uplinkTransmissionEnd => Sys2Proof.Machine.execUplinkTransmissionEnd s
  | .uplinkGapEnd => Sys2Proof.Machine.execUplinkGapEnd s
  | .leaseExpiry => Sys2Proof.Machine.execLeaseExpiry s
  | .sessionIdleEnd address tag => Sys2Proof.Machine.execSessionIdleEnd address tag s
  | .retryTime number => Sys2Proof.Machine.execRetryTime number s
  | .secondsSinceResetTick => Sys2Proof.Machine.execSecondsSinceResetTick s
  | .receiverBeginsFrame heard => Sys2Proof.Machine.execReceiverBeginsFrame heard s
  | .supplySettled dt => Sys2Proof.Machine.execSupplySettled dt s
  | .rstnDeasserted dt => Sys2Proof.Machine.execRstnDeasserted dt s
  | .ledTrunkFlash => Sys2Proof.Machine.execLedTrunkFlash s

end Sys2Proof.Machine
end

