-- ==== Sys2Proof/Safety.lean ====
section
/-! DEFINITION. The terms the statements use: a request that is asked, its answer, what a command leaves alone, and
the laws of the part that every step keeps. -/

namespace Sys2Proof.Safety

open Sys2Proof.Machine

/-! ### Requests -/

/-- The agent takes `e` next (R157): no reset runs, `e` heads the input list, the output list has a place, no
SOFT reset waits. -/
def Taken (s : State) (e : InputEntry) : Prop :=
  s.resetRun = none ∧ s.agent.input.head? = some e ∧ s.agent.output.length < 4 ∧ s.agent.softReset = false

/-- The envelope passes steps 1 and 2 of R158. -/
def Enveloped (e : InputEntry) : Prop :=
  envVersion e.bytes = 1 ∧ envKind e.bytes = 1 ∧ envTag e.bytes ≠ 0

/-- The session a request belongs to, if it has a record (R161). -/
def sessionOf (s : State) (e : InputEntry) : Option Session :=
  s.agent.sessions.find? (Session.hasKey (frameSrc e.bytes) (envTag e.bytes))

/-- Steps 3 and 4 pass the request on: no record, or one of its origin with another last sequence (R161, R163). -/
def FirstAsked (s : State) (e : InputEntry) : Prop :=
  ∀ x, sessionOf s e = some x → x.origin = e.origin ∧ ∀ p, x.last = some p → p.1 ≠ envSeq e.bytes

/-- The frame has this code, and a body of these bytes that passes step 5 (R158). -/
def Carries (e : InputEntry) (code : Byte) (body : List Byte) : Prop :=
  envCode e.bytes = code ∧ envBodyLength e.bytes ≤ 480 ∧ envBodyLength e.bytes ≤ bodyPresent e.bytes
    ∧ envBody e.bytes = body

/-- The agent takes a request of this code and body, and it is no replay: it reaches step 7 (R158). -/
def Asked (s : State) (e : InputEntry) (code : Byte) (body : List Byte) : Prop :=
  Taken s e ∧ Enveloped e ∧ FirstAsked s e ∧ Carries e code body

/-- The request comes from the uplink, from the session that holds the lease (R168). -/
def FromHolder (s : State) (e : InputEntry) : Prop :=
  e.origin = .uplink ∧ s.agent.holds (frameSrc e.bytes) (envTag e.bytes) = true

/-- The response frame to a request (R154). -/
def responseTo (s : State) (e : InputEntry) (status : Byte) (body : List Byte) : List Byte :=
  buildFrame (frameSrc e.bytes) s.identity.factory 2 (envTag e.bytes) (envSeq e.bytes) (envCode e.bytes) status body

/-- The agent's part of an answered request: the entry has left the input list, the answer and its sequence stand
in the session with idle time 0, and an uplink request's answer stands at the tail of the output list (R157, R161,
R163, R165). -/
def Answered (s t : State) (e : InputEntry) (status : Byte) (body : List Byte) : Prop :=
  t.agent.input = s.agent.input.tail
  ∧ (∃ x, sessionOf t e = some x ∧ x.origin = e.origin ∧ x.lastTake = t.now
      ∧ x.last = some (envSeq e.bytes, responseTo s e status body))
  ∧ (e.origin = .uplink →
      t.agent.output.map OutputEntry.bytes
        = s.agent.output.map OutputEntry.bytes ++ [responseTo s e status body])
  ∧ (e.origin ≠ .uplink → t.agent.output = s.agent.output)

/-- The requests taken and refused counters of an answered request (R157, R158). -/
def Counted (s t : State) (refused : Bool) : Prop :=
  t.agent.counters.requestsTaken = s.agent.counters.requestsTaken + 1
  ∧ t.agent.counters.refused = s.agent.counters.refused + (if refused then 1 else 0)
  ∧ t.agent.counters.replays = s.agent.counters.replays
  ∧ t.agent.counters.inputDrops = s.agent.counters.inputDrops
  ∧ t.agent.counters.envelopeDiscards = s.agent.counters.envelopeDiscards

/-- A request command: its time, its request's code and its permission class (R167, R208). -/
def requestOf : Instr → Option (Nat × Byte × PermissionClass)
  | .identify dt => some (dt, 0x01, .read)
  | .claim dt => some (dt, 0x02, .lease)
  | .release dt => some (dt, 0x03, .lease)
  | .resetDevice dt => some (dt, 0x04, .write)
  | .readRound dt => some (dt, 0x10, .read)
  | .writeRound dt => some (dt, 0x11, .write)
  | .setRoundParams dt => some (dt, 0x12, .write)
  | .commitRound dt => some (dt, 0x13, .write)
  | .disarmRound dt => some (dt, 0x14, .write)
  | .readTrunk dt => some (dt, 0x20, .read)
  | .startTrunk dt => some (dt, 0x21, .write)
  | .stopTrunk dt => some (dt, 0x22, .write)
  | .readStations dt => some (dt, 0x30, .read)
  | .enrolStation dt => some (dt, 0x31, .write)
  | .withdrawStation dt => some (dt, 0x32, .write)
  | .setStationMute dt | .setStationRestore dt | .setStationBind dt | .setStationUnbind dt => some (dt, 0x33, .write)
  | .readRules dt => some (dt, 0x40, .read)
  | .writeRules dt => some (dt, 0x41, .write)
  | .setDefaults dt => some (dt, 0x42, .write)
  | .readQueues dt => some (dt, 0x50, .read)
  | .setQueueLimits dt => some (dt, 0x51, .write)
  | .flushQueue dt => some (dt, 0x52, .write)
  | .readNotices dt => some (dt, 0x60, .read)
  | .ackNotices dt => some (dt, 0x61, .ack)
  | .readCounters dt => some (dt, 0x70, .read)
  | .readCountersClear dt => some (dt, 0x70, .write)
  | _ => none

/-- The body tells which of several rows of one code a request is: the action of SET_STATION, the clear flag of
READ_COUNTERS (R77, R197). Every other row takes any body of its code. -/
def bodySpells : Instr → List Byte → Bool
  | .setStationMute _, b => 2 ≤ b.length && numAt b 1 == 1
  | .setStationRestore _, b => 2 ≤ b.length && numAt b 1 == 2
  | .setStationBind _, b => 2 ≤ b.length && numAt b 1 == 3
  | .setStationUnbind _, b => 2 ≤ b.length && numAt b 1 == 4
  | .readCounters _, b => 3 ≤ b.length && numAt b 2 == 0
  | .readCountersClear _, b => 3 ≤ b.length && numAt b 2 != 0
  | _, _ => true

/-- The frame of `e` is the request of command `c`, whose time is `dt` and whose class is `k`, with this body. -/
def Requests (c : Instr) (dt : Nat) (k : PermissionClass) (e : InputEntry) (body : List Byte) : Prop :=
  ∃ code, requestOf c = some (dt, code, k) ∧ Carries e code body ∧ bodySpells c body = true

/-- The body of a SET_STATION that names none of the four actions, or is too short to (R77). -/
def NamesNoAction (b : List Byte) : Prop := b.length < 2 ∨ numAt b 1 = 0 ∨ 4 < numAt b 1

/-- The code names no request of the part (R158, step 6). -/
def NamesNoRequest (code : Byte) : Prop :=
  ∀ (c : Instr) (dt : Nat) (code' : Byte) (k : PermissionClass), requestOf c = some (dt, code', k) → code' ≠ code

/-- The body length fails step 5: above 480, above the bytes present, or below 3 for READ_COUNTERS (R158). -/
def FailsStepFive (e : InputEntry) : Prop :=
  480 < envBodyLength e.bytes ∨ e.bytes.length - 28 < envBodyLength e.bytes
  ∨ (envCode e.bytes = 0x70 ∧ envBodyLength e.bytes < 3)

/-- The body is of the size that the layout of the command's request gives (R210). -/
def bodyFits (c : Instr) (b : List Byte) : Bool :=
  match c with
  | .claim _ | .withdrawStation _ | .flushQueue _ => b.length == 1
  | .readStations _ | .readRules _ | .setDefaults _ | .ackNotices _ => b.length == 2
  | .readRound _ | .readCounters _ | .readCountersClear _ => b.length == 3
  | .setQueueLimits _ => b.length == 5
  | .setRoundParams _ => b.length == 7
  | .enrolStation _ | .setStationMute _ | .setStationRestore _ | .setStationBind _ | .setStationUnbind _ =>
    b.length == 8
  | .writeRound _ => 3 ≤ b.length && b.length == 3 + 4 * numAt b 1
  | .writeRules _ => 2 ≤ b.length && b.length == 2 + 18 * numAt b 1
  | _ => b.length == 0

/-- Whether a request of a class from this origin and session is refused at step 7, with its status (R168). -/
def refusedByClass (s : State) (e : InputEntry) (k : PermissionClass) : Option Byte :=
  if k = .read then none
  else if e.origin ≠ .uplink then some 0x03
  else if k = .lease then none
  else if k = .ack ∧ s.agent.lease = none then none
  else if s.agent.holds (frameSrc e.bytes) (envTag e.bytes) then none
  else some 0x04

/-- The lease after step 3: restarted for the holder's session (R171). -/
def leaseAfterTake (s : State) (e : InputEntry) (now : Nat) : Option Lease :=
  if (sessionOf s e).isSome && s.agent.holds (frameSrc e.bytes) (envTag e.bytes) then
    s.agent.lease.map fun l => { l with expiry := now + l.duration * second }
  else s.agent.lease

/-- The sessions evicted counter after step 3: advanced when a new session meets a full table in which a record does not
hold the lease (R161, R162). -/
def evictedAfterTake (s : State) (e : InputEntry) : Counter :=
  if (sessionOf s e).isNone ∧ 4 ≤ s.agent.sessions.length ∧ ∃ x ∈ s.agent.sessions, s.agent.holds x.address x.tag = false
    then s.agent.counters.sessionsEvicted + 1
  else s.agent.counters.sessionsEvicted

/-- Four bytes of a round entry within the ranges of R2. -/
def EntryInRange (x : List Byte) : Prop :=
  numAt x 0 ≤ 30 ∧ 1 ≤ numAt x 1 ∧ numAt x 1 ≤ 8 ∧ (numAt x 2 = 0 ∨ 16 ≤ numAt x 2)
  ∧ (numAt x 0 = 0 → numAt x 2 = 0) ∧ numAt x 3 ≤ 2 ∧ (numAt x 0 ≠ 0 → numAt x 3 = 0)

/-- Eighteen bytes of a rule that check RULE passes (R114). -/
def RuleInRange (x : List Byte) : Prop :=
  numAt x 1 ≤ 2 ∧ numAt x 2 ≤ 3 ∧ numAt x 17 ≤ 30 ∧ (numAt x 1 = 1 → numAt x 17 = 0)

/-! ### What a command leaves alone -/

/-- The round tables, the engine with its indicator, the stations, the admission rules, the stamps, the identity. -/
def SameTables (s t : State) : Prop :=
  t.store = s.store ∧ t.engine = s.engine ∧ t.led = s.led ∧ t.trunkCounters = s.trunkCounters
  ∧ t.stations = s.stations ∧ t.admission = s.admission ∧ t.stamps = s.stamps ∧ t.identity = s.identity

/-- The queue of commands, the reset, the pins, and of the uplink port all but its transmitter. -/
def SamePorts (s t : State) : Prop :=
  t.pending = s.pending ∧ t.resetRun = s.resetRun ∧ t.pins = s.pins
  ∧ t.uplink.link = s.uplink.link ∧ t.uplink.receiving = s.uplink.receiving
  ∧ t.uplink.counters = s.uplink.counters

/-- What holds of every uplink-origin answer whose request touches no queue: queues, line and notices stay. -/
def SameTraffic (s t : State) : Prop := t.queues = s.queues ∧ t.line = s.line ∧ t.notices = s.notices

/-- A request that is only answered: `dt` has passed and nothing but the agent has changed; a trunk-origin answer
goes to DX, with what that brings (R166). -/
def OnlyAnswered (dt : Nat) (s t : State) (e : InputEntry) : Prop :=
  t.now = s.now + dt ∧ SameTables s t ∧ SamePorts s t ∧ (e.origin = .uplink → SameTraffic s t)
  ∧ t.agent.lease = leaseAfterTake s e t.now ∧ t.agent.softReset = false

/-- What holds of every request that its block carries out or refuses: `dt` has passed, the ports stand, the lease is
as step 3 left it, no SOFT reset waits. -/
def RequestFrame (dt : Nat) (s t : State) (e : InputEntry) : Prop :=
  t.now = s.now + dt ∧ SamePorts s t ∧ t.agent.lease = leaseAfterTake s e t.now ∧ t.agent.softReset = false

/-- The engine, the line, the indicator and the trunk counters stand. -/
def SameEngine (s t : State) : Prop :=
  t.engine = s.engine ∧ t.line = s.line ∧ t.led = s.led ∧ t.trunkCounters = s.trunkCounters

/-- The clear stamps and the identity stand. -/
def SameIdentity (s t : State) : Prop := t.stamps = s.stamps ∧ t.identity = s.identity

/-- A command of the reset rules; these act during a reset too (R204, R205). -/
def isResetCommand : Instr → Bool
  | .powerApplied _ | .rstnAsserted _ | .resetEnd _ _ | .supplySettled _ | .rstnDeasserted _ => true
  | _ => false

/-! ### States the rules name -/

/-- An entry of the trunk into STOPPED: the engine's fields, the dark indicator, TRUNK_STATE with cause REQUEST, and
then the swap of an armed PENDING (R15, R16, R27, R213; log 8). -/
def stoppedFrom (s : State) : State :=
  let notices := s.notices.raise s.engine.round .trunkState none ⟨0x00, 0x03, s.engine.round, s.store.generation⟩
  { s with
    engine := { s.engine with trunk := .stopped, phase := none, index := none, firstEntry := [],
                              fillSuspended := false, timer := none, gap := none, quietFrom := none, origin := none,
                              toBoundary := false }
    led := {}
    store := if s.store.armed then
        { active := s.store.pending, pending := s.store.pending, generation := s.store.generation + 1, armed := false }
      else s.store
    notices := if s.store.armed then
        notices.raise s.engine.round .tableSwapped none
          ⟨s.store.generation + 1, byteOf s.store.pending.entries.length, 0, 0⟩
      else notices }

/-- A round boundary: the swap of an armed PENDING, then the new round with its ROUND_START (R31). -/
def roundStartedFrom (s : State) : State :=
  let generation := if s.store.armed then s.store.generation + 1 else s.store.generation
  { s with
    store := if s.store.armed then
        { active := s.store.pending, pending := s.store.pending, generation := generation, armed := false }
      else s.store
    notices := if s.store.armed then
        s.notices.raise s.engine.round .tableSwapped none
          ⟨generation, byteOf s.store.pending.entries.length, 0, 0⟩
      else s.notices
    engine := { s.engine.enter .roundMark with round := s.engine.round + 1, firstEntry := [],
                                               roundStart := some s.now, fillSuspended := false }
    trunkCounters := { s.trunkCounters with roundsStarted := s.trunkCounters.roundsStarted + 1 }
    line := { s.line with tx := some ⟨.marker ⟨0x1C, s.engine.round + 1, generation⟩, s.now + 480⟩, echo := none } }

/-- The front frame `f` of DX or DN in the trunk on-air slot and on air, with `rest` left in the queue (R49, R93,
R129). -/
def takenFrom (q : QueueName) (f : Frame) (rest : List Frame) (s : State) : State :=
  { s with
    queues := { s.queues.on q (fun x => { x with frames := rest }) with trunkSlot := some ⟨f, q⟩ }
    line := { s.line with tx := some ⟨.frame, s.now + (f.bytes.length + 8) * 80⟩, echo := none } }

/-- The head has stopped sending, and the echo allowance runs (R83, R84). -/
def quieted (cut : Bool) (s : State) : State :=
  { s with line := { s.line with tx := none, echo := some { ends := s.now + 80, cut := cut, colRose := false } } }

/-- The engine in TURNAROUND, QUIETING from the present moment (R52, R54). -/
def turningAround (s : State) : State :=
  { s with engine := { s.engine.enter .turnaround with timer := some (s.now + 160) } }

/-- The engine in QUIETING from the present moment (R54). -/
def quieting (s : State) : State :=
  { s with engine := { s.engine.enter .quieting with quietFrom := some s.now } }

/-- A RECOVERY notice with the entry index as it stands (R182). -/
def recovering (station : Option Nat) (cause : Byte) (s : State) : State :=
  { s with
    notices := s.notices.raise s.engine.round .recovery station ⟨cause, byteOf (s.engine.index.getD 0xFF), 0, 0⟩ }

/-- The strays counter advanced, and a RECOVERY with station absent and cause STRAY: carrier outside a call (R53). -/
def strayed (s : State) : State :=
  recovering none 0x01
    { s with trunkCounters := { s.trunkCounters with strays := s.trunkCounters.strays + 1 } }

/-- CARRIER_ON met by the engine, by phase, in a state whose burst has begun: a burst of the answer in a call, carrier
outside a call in TURNAROUND, QUIETING, FLOOR and the gap, nothing elsewhere (R24, R37, R40, R53, R59). -/
def carrierMet (s : State) : State :=
  match s.engine.phase with
  | some .awaiting => { s with engine := { s.engine.enter .receiving with origin := some .awaiting } }
  | some .continuing => { s with engine := { s.engine.enter .receiving with origin := some .continuing } }
  | some .closing => { s with engine := { s.engine.enter .receiving with origin := some .closing } }
  | some .turnaround => quieting (strayed s)
  | some .quieting => strayed s
  | some .floor => { strayed s with engine := { s.engine with fillSuspended := true, quietFrom := some s.now } }
  | some .sending => if s.engine.gap = none then s else quieting (strayed s)
  | some .roundMark | some .calling | some .receiving | none => s

/-- COLLISION met in the burst `b` that is held, the first in it: the burst is marked, and in a call it gives COLLIDED
(R43, R89). -/
def collisionMet (b : Burst) (s : State) : State :=
  let marked : State := { s with line := { s.line with burst := some { b with collision := true } } }
  match s.engine.phase with
  | some .awaiting | some .receiving | some .continuing | some .closing => marked.endCall .collided
  | _ => marked

/-- The trunk in BLOCKED, with the rounds abandoned and blocked entries counters, TRUNK_STATE and RECOVERY (R45, R55,
R56). -/
def blockedFrom (station : Option Nat) (cause : Byte) (s : State) : State :=
  let notices := s.notices.raise s.engine.round .trunkState none ⟨0x04, cause, s.engine.round, s.store.generation⟩
  { s with
    trunkCounters := { s.trunkCounters with roundsAbandoned := s.trunkCounters.roundsAbandoned + 1,
                                            blockedEntries := s.trunkCounters.blockedEntries + 1 }
    engine := { s.engine with trunk := .blocked, phase := none, index := none, credit := 0, fillSuspended := false,
                              timer := none, gap := none, quietFrom := some s.now, origin := none,
                              toBoundary := false }
    led := { lit := true, stretch := some (s.now + 10000000) }
    notices := notices.raise s.engine.round .recovery station ⟨0x03, byteOf (s.engine.index.getD 0xFF), 0, 0⟩ }

/-! ### The laws of the part -/

/-- The cells of a frame in a slot. -/
def slotCells : Option Frame → Nat
  | none => 0
  | some f => f.cells

/-- Every cell is free or held by one frame in a queue or a slot: 512 in all (R118). -/
def CellLaw (s : State) : Prop :=
  s.queues.free + cellSum s.queues.dx.frames + cellSum s.queues.dn.frames + cellSum s.queues.uq.frames
    + slotCells (s.queues.trunkSlot.map TrunkSlot.frame) + slotCells s.queues.uplinkSlot = 512

/-- A queue within its limits, and its limits within their ranges (R123). -/
def QueueWithin (q : Queue) : Prop :=
  q.frames.length ≤ q.frameLimit ∧ cellSum q.frames ≤ q.cellLimit
  ∧ 1 ≤ q.frameLimit ∧ q.frameLimit ≤ 256 ∧ 12 ≤ q.cellLimit ∧ q.cellLimit ≤ 512

/-- Every queue is within its limits (R123, R124, R132, R135), the trunk on-air slot holds a frame of DX or DN
(R121), and UQ is empty while the link state is DOWN (R126). -/
def QueueLaw (s : State) : Prop :=
  QueueWithin s.queues.dx ∧ QueueWithin s.queues.dn ∧ QueueWithin s.queues.uq
  ∧ (∀ x, s.queues.trunkSlot = some x → x.queue ≠ .uq)
  ∧ (s.resetRun = none → s.uplink.link = false → s.queues.uq.frames = [])

/-- The banks: at most 64 entries; an armed PENDING is not empty; ACTIVE is not empty while the trunk is not
STOPPED (R25); with no lease held PENDING is armed or equal to ACTIVE (R20). -/
def StoreLaw (s : State) : Prop :=
  s.store.active.entries.length ≤ 64 ∧ s.store.pending.entries.length ≤ 64
  ∧ (s.store.armed = true → s.store.pending.entries ≠ [])
  ∧ (s.engine.trunk ≠ .stopped → s.store.active.entries ≠ [])
  ∧ (s.agent.lease = none → s.store.armed = true ∨ s.store.pending = s.store.active)

/-- Every station a bank names has a record. -/
def Enrolled (s : State) (b : Bank) : Prop :=
  ∀ e ∈ b.entries, e.station ≠ 0 → ∃ r ∈ s.stations, r.station = e.station

/-- Every station in ACTIVE, and in PENDING while armed, has a record (R11). -/
def EnrolmentLaw (s : State) : Prop :=
  Enrolled s s.store.active ∧ (s.store.armed = true → Enrolled s s.store.pending)

/-- At most 4 sessions, no two of one key, and the lease holder's session among them (R160, R169). -/
def SessionLaw (s : State) : Prop :=
  s.agent.sessions.length ≤ 4
  ∧ (s.agent.sessions.map fun x => (x.address, x.tag)).Nodup
  ∧ ∀ l, s.agent.lease = some l → ∃ x ∈ s.agent.sessions, x.address = l.address ∧ x.tag = l.tag

/-- How far a notice number lies behind the next number, modulo 65536. -/
def behind (next number : BitVec 16) : Nat := (next - number).toNat

/-- At most 16 records, no two of one kind and station, each covering the records ahead of it, in increasing
number order, and none more than 32768 behind the next number (R185). -/
def NoticeLaw (s : State) : Prop :=
  s.notices.records.length ≤ 16
  ∧ (s.notices.records.map fun r => (r.kind, r.station)).Nodup
  ∧ s.notices.records.Pairwise (fun a b => covers b.number a.number = true)
  ∧ s.notices.records.Pairwise (fun a b => behind s.notices.next b.number < behind s.notices.next a.number)
  ∧ ∀ r ∈ s.notices.records, 1 ≤ behind s.notices.next r.number ∧ behind s.notices.next r.number ≤ 32768

/-- An entry phase is present only in RUNNING and STOPPING (R24, R36). -/
def PhaseLaw (s : State) : Prop :=
  s.engine.phase ≠ none → s.engine.trunk = .running ∨ s.engine.trunk = .stopping

/-- The lists hold no more than their places: 16 rules, 4 requests, 4 responses (R99, R155, R156). -/
def PlacesLaw (s : State) : Prop :=
  s.admission.rules.length = 16 ∧ s.agent.input.length ≤ 4 ∧ s.agent.output.length ≤ 4

end Sys2Proof.Safety
end

