-- ==== Sys2Proof/Certificates/Slice0/Obligations.lean ====
section
/-! DEFINITION. The statements for the provers. -/

open Sys2Proof Sys2Proof.Machine Sys2Proof.Safety

/-! ### The queue of commands -/

/-- Step takes the command at the front of the queue and runs it on the queue's rest; on an empty queue the block
idles, which is the model's choice (log 4). -/
def Obligations.StepTakesTheFrontCommandOrIdles : Prop :=
  (∀ (c : Instr) (rest : List Instr) (s : State),
      step { s with pending := c :: rest } = exec c { s with pending := rest })
  ∧ (∀ s : State, s.pending = [] → step s = .next s)

/-- No command touches the queue: it is the model's own (log 4). -/
def Obligations.ExecKeepsTheQueue : Prop :=
  ∀ (c : Instr) (s t : State), exec c s = .next t → t.pending = s.pending

/-- While a reset is in progress the part takes no event (R204): only the clock and the levels of the pins move. -/
def Obligations.NoEventDuringReset : Prop :=
  ∀ (c : Instr) (s : State), s.resetRun ≠ none → isResetCommand c = false →
    ∃ t, exec c s = .next t ∧ t = { s with now := t.now, pins := t.pins } ∧ t.pins.rstn = s.pins.rstn

/-! ### Round tables -/

/-- READ_ROUND reports one bank at one event, or refuses its selector or first index (R6, R7). -/
def Obligations.ReadRoundReportsOneBank : Prop :=
  ∀ (dt : Nat) (s : State) (e : InputEntry) (bank first count : Byte), Asked s e 0x10 [bank, first, count] →
    ∃ t, exec (.readRound dt) s = .next t ∧ OnlyAnswered dt s t e
      ∧ (2 ≤ bank.toNat → Answered s t e 0x06 [0x01, 0xFF] ∧ Counted s t true)
      ∧ (bank.toNat < 2 → 64 ≤ first.toNat → Answered s t e 0x06 [0x02, 0xFF] ∧ Counted s t true)
      ∧ (bank.toNat < 2 → first.toNat < 64 →
          let b := if bank = 0 then s.store.active else s.store.pending
          let part := (b.entries.drop first.toNat).take count.toNat
          Answered s t e 0x00 ([bank, s.store.generation, if s.store.armed then 0x01 else 0x00,
            byteOf b.entries.length] ++ b.header.bytes ++ [first, byteOf part.length]
            ++ part.flatMap RoundEntry.bytes) ∧ Counted s t false)

/-- WRITE_ROUND from the lease holder: its checks in order, and the write index by index (R8, R9). -/
def Obligations.WriteRoundEditsPending : Prop :=
  ∀ (dt : Nat) (s : State) (e : InputEntry) (f n : Byte) (es : List (List Byte)),
    Asked s e 0x11 ([f, byteOf es.length, n] ++ es.flatten) → FromHolder s e →
    (∀ x ∈ es, x.length = 4) →
    let old := s.store.pending.entries
    ∃ t, exec (.writeRound dt) s = .next t ∧ RequestFrame dt s t e ∧ SameEngine s t ∧ SameIdentity s t
      ∧ t.stations = s.stations ∧ t.admission = s.admission ∧ t.queues = s.queues ∧ t.notices = s.notices
      ∧ (s.store.armed = true → Answered s t e 0x07 [] ∧ t.store = s.store)
      ∧ (s.store.armed = false →
          (old.length < f.toNat → Answered s t e 0x06 [0x02, 0xFF] ∧ t.store = s.store)
          ∧ (f.toNat ≤ old.length →
              (64 < f.toNat + es.length → Answered s t e 0x06 [0x03, 0xFF] ∧ t.store = s.store)
              ∧ (f.toNat + es.length ≤ 64 →
                  (64 < n.toNat ∨ (old.length < n.toNat ∧ f.toNat + es.length < n.toNat) →
                    Answered s t e 0x06 [0x04, 0xFF] ∧ t.store = s.store)
                  ∧ (n.toNat ≤ 64 → (n.toNat ≤ old.length ∨ n.toNat ≤ f.toNat + es.length) →
                      (∀ i x, es[i]? = some x → ¬ EntryInRange x →
                          (∀ j y, j < i → es[j]? = some y → EntryInRange y) →
                          Answered s t e 0x06 [0x05, byteOf (f.toNat + i)] ∧ t.store = s.store)
                      ∧ ((∀ x ∈ es, EntryInRange x) →
                          Answered s t e 0x00 [n]
                          ∧ t.store = { s.store with pending :=
                              { s.store.pending with entries := t.store.pending.entries } }
                          ∧ t.store.pending.entries.length = n.toNat
                          ∧ ∀ i, i < n.toNat → t.store.pending.entries[i]? =
                              if f.toNat ≤ i ∧ i < f.toNat + es.length then
                                (es[i - f.toNat]?).map roundEntryOf
                              else old[i]?)))))

/-- SET_ROUND_PARAMS from the lease holder: the first parameter out of range is named, otherwise the header of
PENDING is replaced (R10). -/
def Obligations.SetRoundParamsReplacesHeader : Prop :=
  ∀ (dt : Nat) (s : State) (e : InputEntry) (answer cont miss strike probe hi lo : Byte),
    Asked s e 0x12 [answer, cont, miss, strike, probe, hi, lo] → FromHolder s e →
    ∃ t, exec (.setRoundParams dt) s = .next t ∧ RequestFrame dt s t e ∧ SameEngine s t ∧ SameIdentity s t
      ∧ t.stations = s.stations ∧ t.admission = s.admission ∧ t.queues = s.queues ∧ t.notices = s.notices
      ∧ if s.store.armed then Answered s t e 0x07 [] ∧ t.store = s.store
        else if answer.toNat < 16 then Answered s t e 0x06 [0x10, 0xFF] ∧ t.store = s.store
        else if cont.toNat < 32 then Answered s t e 0x06 [0x11, 0xFF] ∧ t.store = s.store
        else if miss.toNat = 0 ∨ 15 < miss.toNat then Answered s t e 0x06 [0x12, 0xFF] ∧ t.store = s.store
        else if strike.toNat = 0 ∨ 7 < strike.toNat then Answered s t e 0x06 [0x13, 0xFF] ∧ t.store = s.store
        else if probe.toNat = 0 then Answered s t e 0x06 [0x14, 0xFF] ∧ t.store = s.store
        else Answered s t e 0x00 [] ∧ t.store =
          { s.store with pending := { s.store.pending with header :=
            { answerWindow := answer.toNat, continueWindow := cont.toNat, missLimit := miss.toNat,
              strikeLimit := strike.toNat, probePeriod := probe.toNat, floor := 256 * hi.toNat + lo.toNat } } }

/-- COMMIT_ROUND from the lease holder: its checks in order; in STOPPED the swap at once with its notice, otherwise
PENDING is armed (R11, R12, R13, R16). -/
def Obligations.CommitRoundSwapsOrArms : Prop :=
  ∀ (dt : Nat) (s : State) (e : InputEntry), Asked s e 0x13 [] → FromHolder s e →
    let named := fun (x : RoundEntry) => x.station = 0 ∨ ∃ r ∈ s.stations, r.station = x.station
    ∃ t, exec (.commitRound dt) s = .next t ∧ RequestFrame dt s t e ∧ SameEngine s t ∧ SameIdentity s t
      ∧ t.stations = s.stations ∧ t.admission = s.admission ∧ t.queues = s.queues
      ∧ (s.store.armed = true → Answered s t e 0x07 [] ∧ t.store = s.store ∧ t.notices = s.notices)
      ∧ (s.store.armed = false → s.store.pending.entries = [] →
          Answered s t e 0x09 [0x01] ∧ t.store = s.store ∧ t.notices = s.notices)
      ∧ (s.store.armed = false → ∀ i x, s.store.pending.entries[i]? = some x → ¬ named x →
          (∀ j y, j < i → s.store.pending.entries[j]? = some y → named y) →
          Answered s t e 0x0A [byteOf i] ∧ t.store = s.store ∧ t.notices = s.notices)
      ∧ (s.store.armed = false → s.store.pending.entries ≠ [] → (∀ x ∈ s.store.pending.entries, named x) →
          (s.engine.trunk = .stopped →
            Answered s t e 0x00 [0x01, s.store.generation + 1]
            ∧ t.store = { active := s.store.pending, pending := s.store.pending,
                          generation := s.store.generation + 1, armed := false }
            ∧ t.notices = s.notices.raise s.engine.round .tableSwapped none
                ⟨s.store.generation + 1, byteOf s.store.pending.entries.length, 0, 0⟩)
          ∧ (s.engine.trunk ≠ .stopped →
              Answered s t e 0x00 [0x02, s.store.generation] ∧ t.store = { s.store with armed := true }
              ∧ t.notices = s.notices))

/-- DISARM_ROUND from the lease holder clears the armed flag and keeps the contents, or is answered NOT_ARMED
(R14). -/
def Obligations.DisarmRoundClearsTheFlag : Prop :=
  ∀ (dt : Nat) (s : State) (e : InputEntry), Asked s e 0x14 [] → FromHolder s e →
    ∃ t, exec (.disarmRound dt) s = .next t ∧ RequestFrame dt s t e ∧ SameEngine s t ∧ SameIdentity s t
      ∧ t.stations = s.stations ∧ t.admission = s.admission ∧ t.queues = s.queues ∧ t.notices = s.notices
      ∧ (s.store.armed = true → Answered s t e 0x00 [] ∧ t.store = { s.store with armed := false })
      ∧ (s.store.armed = false → Answered s t e 0x08 [] ∧ t.store = s.store)

/-! ### Reads -/

/-- IDENTIFY returns the fixed codes, addresses and capacities, the reset cause, the seconds since reset and the link
state, and changes nothing but the agent's session handling (R202). -/
def Obligations.IdentifyReportsThePart : Prop :=
  ∀ (dt : Nat) (s : State) (e : InputEntry), Asked s e 0x01 [] →
    ∃ t, exec (.identify dt) s = .next t ∧ OnlyAnswered dt s t e ∧ Counted s t false
      ∧ Answered s t e 0x00 (([0x5A, 0x4A, 0x03, 0x10, 0x01] : List Byte) ++ addrBytes s.identity.factory
          ++ ([0x0B, 0x3A, 0x6C, 0x00, 0x00, 0x01, 64, 30, 16, 0x02, 0x00, 16, 4, 4, 4,
               match s.identity.cause with | .power => 0x01 | .pin => 0x02 | .soft => 0x03] : List Byte)
          ++ bytes4 s.identity.seconds.toNat ++ [if s.uplink.link then 0x01 else 0x00])

/-- READ_TRUNK returns the trunk state, the phase, the round, the generation, the armed flag, the entry index and the
microseconds left to the floor expiry (R29, R211). That presence bits 2 to 7 are 0 is the model's choice (log 22). -/
def Obligations.ReadTrunkReportsTheEngine : Prop :=
  ∀ (dt : Nat) (s : State) (e : InputEntry), Asked s e 0x20 [] →
    let floor := s.store.active.header.floor
    let now := s.now + dt
    ∃ t, exec (.readTrunk dt) s = .next t ∧ OnlyAnswered dt s t e ∧ Counted s t false
      ∧ ∃ left : Option Nat,
          Answered s t e 0x00 ([s.engine.trunk.code, match s.engine.phase with | none => 0xFF | some p => p.code,
              s.engine.round, s.store.generation, if s.store.armed then 0x01 else 0x00,
              match s.engine.index.isSome, left.isSome with
              | false, false => 0x00 | true, false => 0x01 | false, true => 0x02 | true, true => 0x03,
              byteOf (s.engine.index.getD 0xFF)] ++ bytes2 (left.getD 0))
          ∧ (∀ us, left = some us ↔ (s.engine.trunk = .running ∨ s.engine.trunk = .stopping) ∧ floor ≠ 0
              ∧ ∃ start, s.engine.roundStart = some start ∧ now < start + floor * 100
                ∧ us = (start + floor * 100 - now) / 100)

/-- READ_STATIONS returns, in table order, the records whose numbers lie in the range asked for; READ_RULES returns the
defaults with their counters and the rules of the range, each with its index (R80, R113, R211). That presence bits 3
to 7 of a station item are 0 is the model's choice (log 22). -/
def Obligations.ReadStationsAndRulesReportARange : Prop :=
  (∀ (dt : Nat) (s : State) (e : InputEntry) (first count : Byte), Asked s e 0x30 [first, count] →
      ∃ t, exec (.readStations dt) s = .next t ∧ OnlyAnswered dt s t e
        ∧ if first.toNat = 0 ∨ 30 < first.toNat then Answered s t e 0x06 [0x02, 0xFF] ∧ Counted s t true
          else Counted s t false ∧ ∃ part : List Station,
            Answered s t e 0x00 ([byteOf s.stations.length, byteOf part.length] ++ part.flatMap Station.bytes)
            ∧ List.Sublist part s.stations
            ∧ ∀ r, r ∈ part ↔ r ∈ s.stations ∧ first.toNat ≤ r.station ∧ r.station < first.toNat + count.toNat
                ∧ r.station ≤ 30)
  ∧ (∀ (dt : Nat) (s : State) (e : InputEntry) (first count : Byte), Asked s e 0x40 [first, count] →
      s.admission.rules.length = 16 →
      ∃ t, exec (.readRules dt) s = .next t ∧ OnlyAnswered dt s t e
        ∧ if 16 ≤ first.toNat then Answered s t e 0x06 [0x02, 0xFF] ∧ Counted s t true
          else Counted s t false ∧
            let n := min count.toNat (16 - first.toNat)
            Answered s t e 0x00 ([s.admission.defaultUp.code, s.admission.defaultDown.code]
              ++ bytes4 s.admission.hitsUp.toNat ++ bytes4 s.admission.hitsDown.toNat ++ [first, byteOf n]
              ++ (List.range n).flatMap fun i =>
                  (s.admission.rules.getD (first.toNat + i) {}).bytes (first.toNat + i)))

/-- READ_QUEUES returns the free count, each queue with its limits, UQ's bands, both slots and the drop counts, in 95
bytes; READ_NOTICES returns the lost count, the next number and every record in list order, with the time to its retry
in units of 10 ms rounded up for one that is not due (R134, R192, R211). That the present byte of a held on-air slot is
0x01 is the model's choice (log 22). -/
def Obligations.ReadQueuesAndNoticesReportEverything : Prop :=
  (∀ (dt : Nat) (s : State) (e : InputEntry), Asked s e 0x50 [] →
      let q := s.queues
      let queue := fun x : Queue =>
        bytes2 x.frames.length ++ bytes2 (cellSum x.frames) ++ bytes2 x.frameLimit ++ bytes2 x.cellLimit
      let band := fun b : Band =>
        bytes2 (q.uq.frames.filter fun f => f.band == some b).length
          ++ bytes2 (cellSum (q.uq.frames.filter fun f => f.band == some b))
      (∀ f ∈ q.uq.frames, f.band ≠ none) →
      ∃ t, exec (.readQueues dt) s = .next t ∧ OnlyAnswered dt s t e ∧ Counted s t false
        ∧ ∃ body, Answered s t e 0x00 body ∧ body.length = 95
            ∧ body = bytes2 q.free ++ queue q.dx ++ queue q.dn ++ queue q.uq ++ band .expedited ++ band .normal
              ++ (match q.trunkSlot with
                  | none => [0, 0, 0, 0, 0, 0, 0, 0]
                  | some x => [0x01] ++ bytes2 x.frame.bytes.length
                      ++ [byteOf x.frame.cells, x.frame.origin.code, x.frame.origin.stationByte, x.queue.code,
                          byteOf (x.frame.abortCount.getD 0)])
              ++ (match q.uplinkSlot with
                  | none => [0, 0, 0, 0, 0]
                  | some f => [0x01] ++ bytes2 f.bytes.length ++ [byteOf f.cells, f.origin.stationByte])
              ++ ([q.dx.counters.frameLimit, q.dx.counters.cellLimit, q.dx.counters.pool, q.dx.counters.abortDrop,
                   q.dn.counters.frameLimit, q.dn.counters.cellLimit, q.dn.counters.pool, q.dn.counters.abortDrop,
                   q.uq.counters.frameLimit, q.uq.counters.cellLimit, q.uq.counters.pool,
                   q.uq.counters.linkDown].flatMap fun c => bytes4 c.toNat))
  ∧ (∀ (dt : Nat) (s : State) (e : InputEntry), Asked s e 0x60 [] →
      ∃ t, exec (.readNotices dt) s = .next t ∧ OnlyAnswered dt s t e ∧ Counted s t false
        ∧ Answered s t e 0x00 (bytes2 s.notices.lost ++ bytes2 s.notices.next.toNat
            ++ [byteOf s.notices.records.length]
            ++ s.notices.records.flatMap fun n =>
                bytes2 n.number.toNat ++ [n.kind.code, byteOf (n.station.getD 0), n.detail.b0, n.detail.b1, n.detail.b2,
                  n.detail.b3] ++ bytes2 n.occurrences ++ [n.firstRound, n.lastRound] ++ bytes2 n.sends
                ++ match n.retry with
                  | none => [0x01, 0x00]
                  | some at_ => [0x00, byteOf (max 1 ((at_ - (s.now + dt) + 999999) / 1000000))]))

/-! ### Counters -/

/-- READ_COUNTERS without clear: its checks in order, then every counter of the set with the two times, and no counter
changes. The AGENT set counts the request's own take, and is read before the answer is routed (R197, R198, R200). -/
def Obligations.ReadCountersReportsASet : Prop :=
  ∀ (dt : Nat) (s : State) (e : InputEntry) (set station : Byte), Asked s e 0x70 [set, station, 0x00] →
    ∃ t, exec (.readCounters dt) s = .next t ∧ OnlyAnswered dt s t e
      ∧ if 6 < set.toNat then Answered s t e 0x06 [0x50, 0xFF] ∧ Counted s t true
        else if set.toNat = 2 ∧ (station.toNat = 0 ∨ 30 < station.toNat) then
          Answered s t e 0x06 [0x20, 0xFF] ∧ Counted s t true
        else if set.toNat = 2 ∧ s.station? station.toNat = none then Answered s t e 0x0A [] ∧ Counted s t true
        else Counted s t false ∧ ∃ (counters : List Counter) (stamp : BitVec 32),
          Answered s t e 0x00 ([set, if set.toNat = 2 then station else 0x00, 0x00]
            ++ bytes4 s.identity.seconds.toNat ++ bytes4 stamp.toNat ++ [byteOf counters.length]
            ++ counters.flatMap fun c => bytes4 c.toNat)
          ∧ (set.toNat = 0 → counters = s.uplink.counters.list ∧ stamp = s.stamps.ports)
          ∧ (set.toNat = 1 → counters = s.trunkCounters.list ∧ stamp = s.stamps.trunk)
          ∧ (set.toNat = 2 → ∀ r, s.station? station.toNat = some r →
              counters = r.counters.list ∧ stamp = r.clearStamp)
          ∧ (set.toNat = 3 → counters = s.queues.counterList ∧ stamp = s.stamps.queues)
          ∧ (set.toNat = 4 → counters = s.admission.counterList ∧ stamp = s.stamps.rules)
          ∧ (set.toNat = 5 → counters = { t.agent.counters with
              responsesDropped := s.agent.counters.responsesDropped }.list ∧ stamp = s.stamps.agent)
          ∧ (set.toNat = 6 → counters = s.notices.counters.list ∧ stamp = s.stamps.notices)

/-- READ_COUNTERS with clear from the lease holder: a flag above 1 is refused; with flag 1 the set is read and zeroed at
one event, its stamp becomes the present seconds, and nothing else changes; the AGENT set is read as the take of the
request itself leaves it (R197 to R199). -/
def Obligations.ClearReadsAndZeroesASet : Prop :=
  ∀ (dt : Nat) (s : State) (e : InputEntry) (set station flag : Byte), Asked s e 0x70 [set, station, flag] →
    FromHolder s e → flag ≠ 0 →
    let refused := fun t : State => OnlyAnswered dt s t e ∧ Counted s t true
    let taken : AgentCounters := { s.agent.counters with
      requestsTaken := s.agent.counters.requestsTaken + 1, sessionsEvicted := evictedAfterTake s e }
    ∃ t, exec (.readCountersClear dt) s = .next t
      ∧ if 6 < set.toNat then Answered s t e 0x06 [0x50, 0xFF] ∧ refused t
        else if 1 < flag.toNat then Answered s t e 0x06 [0x51, 0xFF] ∧ refused t
        else if set.toNat = 2 ∧ (station.toNat = 0 ∨ 30 < station.toNat) then
          Answered s t e 0x06 [0x20, 0xFF] ∧ refused t
        else if set.toNat = 2 ∧ s.station? station.toNat = none then Answered s t e 0x0A [] ∧ refused t
        else t.now = s.now + dt ∧ t.pending = s.pending ∧ t.resetRun = s.resetRun ∧ t.pins = s.pins
          ∧ t.uplink.link = s.uplink.link ∧ t.uplink.receiving = s.uplink.receiving
          ∧ t.agent.lease = leaseAfterTake s e t.now ∧ t.agent.softReset = false
          ∧ t.store = s.store ∧ t.engine = s.engine ∧ t.line = s.line ∧ t.led = s.led ∧ t.identity = s.identity
          ∧ (∃ (counters : List Counter) (stamp : BitVec 32),
            Answered s t e 0x00 ([set, if set.toNat = 2 then station else 0x00, 0x01]
              ++ bytes4 s.identity.seconds.toNat ++ bytes4 stamp.toNat ++ [byteOf counters.length]
              ++ counters.flatMap fun c => bytes4 c.toNat)
            ∧ (set.toNat = 0 → counters = s.uplink.counters.list ∧ stamp = s.stamps.ports)
            ∧ (set.toNat = 1 → counters = s.trunkCounters.list ∧ stamp = s.stamps.trunk)
            ∧ (set.toNat = 2 → ∀ r, s.station? station.toNat = some r →
                counters = r.counters.list ∧ stamp = r.clearStamp)
            ∧ (set.toNat = 3 → counters = s.queues.counterList ∧ stamp = s.stamps.queues)
            ∧ (set.toNat = 4 → counters = s.admission.counterList ∧ stamp = s.stamps.rules)
            ∧ (set.toNat = 5 → counters = taken.list ∧ stamp = s.stamps.agent)
            ∧ (set.toNat = 6 → counters = s.notices.counters.list ∧ stamp = s.stamps.notices))
          ∧ t.uplink.counters = (if set.toNat = 0 then {} else s.uplink.counters)
          ∧ t.trunkCounters = (if set.toNat = 1 then {} else s.trunkCounters)
          ∧ t.stations = s.stations.map (fun r => if set.toNat = 2 ∧ r.station = station.toNat then
              { r with counters := {}, clearStamp := s.identity.seconds } else r)
          ∧ t.queues = (if set.toNat = 3 then
              { s.queues with dx := { s.queues.dx with counters := {} }, dn := { s.queues.dn with counters := {} },
                              uq := { s.queues.uq with counters := {} } } else s.queues)
          ∧ t.admission = (if set.toNat = 4 then
              { s.admission with rules := s.admission.rules.map (fun r => { r with hits := 0 }), hitsUp := 0,
                                 hitsDown := 0, agentRejects := 0 } else s.admission)
          ∧ t.agent.counters = (if set.toNat = 5 then {} else taken)
          ∧ t.notices = (if set.toNat = 6 then { s.notices with counters := {} } else s.notices)
          ∧ t.stamps = { ports := if set.toNat = 0 then s.identity.seconds else s.stamps.ports,
                         trunk := if set.toNat = 1 then s.identity.seconds else s.stamps.trunk,
                         queues := if set.toNat = 3 then s.identity.seconds else s.stamps.queues,
                         rules := if set.toNat = 4 then s.identity.seconds else s.stamps.rules,
                         agent := if set.toNat = 5 then s.identity.seconds else s.stamps.agent,
                         notices := if set.toNat = 6 then s.identity.seconds else s.stamps.notices }

/-! ### The agent -/

/-- CLAIM from the uplink: a duration of 0 is out of range; with no holder it is granted, from the holder renewed,
otherwise the holder is named with its remaining seconds (R170). -/
def Obligations.ClaimGrantsRenewsOrRefuses : Prop :=
  ∀ (dt : Nat) (s : State) (e : InputEntry) (duration : Byte), Asked s e 0x02 [duration] → e.origin = .uplink →
    let now := s.now + dt
    let granted : Lease := { address := frameSrc e.bytes, tag := envTag e.bytes, duration := duration.toNat,
                             expiry := now + duration.toNat * second }
    ∃ t, exec (.claim dt) s = .next t ∧ t.now = now ∧ SameTables s t ∧ SamePorts s t ∧ SameTraffic s t
      ∧ t.agent.softReset = false
      ∧ if duration.toNat = 0 then
          Answered s t e 0x06 [0x60, 0xFF] ∧ t.agent.lease = leaseAfterTake s e now ∧ Counted s t true
        else match s.agent.lease with
          | none => Answered s t e 0x00 [0x01, duration, duration] ∧ t.agent.lease = some granted ∧ Counted s t false
          | some l =>
            if l.address = frameSrc e.bytes ∧ l.tag = envTag e.bytes then
              Answered s t e 0x00 [0x02, duration, duration] ∧ t.agent.lease = some granted ∧ Counted s t false
            else
              Answered s t e 0x05 (addrBytes l.address ++ bytes2 l.tag.toNat
                ++ [byteOf (max 1 ((l.expiry - now + (second - 1)) / second))])
              ∧ t.agent.lease = some l ∧ Counted s t true

/-- RELEASE from the uplink: the holder's ends the lease and reverts an unarmed PENDING, with no notice; any other is
answered NOT_HOLDER and changes nothing. RESET_DEVICE from the holder is answered OK; its answer is marked in the
output list and a SOFT reset waits, and nothing else changes (R20, R174, R175). -/
def Obligations.ReleaseAndResetDevice : Prop :=
  (∀ (dt : Nat) (s : State) (e : InputEntry), Asked s e 0x03 [] → e.origin = .uplink →
      ∃ t, exec (.release dt) s = .next t ∧ t.now = s.now + dt ∧ SameEngine s t ∧ SameIdentity s t ∧ SamePorts s t
        ∧ t.stations = s.stations ∧ t.admission = s.admission ∧ SameTraffic s t
        ∧ (FromHolder s e → Answered s t e 0x00 [] ∧ Counted s t false ∧ t.agent.lease = none
            ∧ t.store = if s.store.armed then s.store else { s.store with pending := s.store.active })
        ∧ (¬ FromHolder s e → Answered s t e 0x04 [] ∧ Counted s t true ∧ t.agent.lease = s.agent.lease
            ∧ t.store = s.store))
  ∧ (∀ (dt : Nat) (s : State) (e : InputEntry), Asked s e 0x04 [] → FromHolder s e →
      ∃ t, exec (.resetDevice dt) s = .next t ∧ t.now = s.now + dt ∧ SameTables s t ∧ SamePorts s t ∧ SameTraffic s t
        ∧ Answered s t e 0x00 [] ∧ Counted s t false ∧ t.agent.lease = leaseAfterTake s e t.now
        ∧ t.agent.softReset = true
        ∧ t.agent.output = s.agent.output ++ [⟨responseTo s e 0x00 [], true⟩])

/-- The agent takes no request while its input list is empty, its output list is full or a SOFT reset waits (R157,
R175): the command then moves nothing but the clock, and the arbiter acts as at every event (log 15, log 17). -/
def Obligations.NoTakeWithoutItsConditions : Prop :=
  ∀ (c : Instr) (dt : Nat) (code : Byte) (k : PermissionClass) (s : State), requestOf c = some (dt, code, k) →
    s.resetRun = none → (s.agent.input = [] ∨ 4 ≤ s.agent.output.length ∨ s.agent.softReset = true) →
    exec c s = .next ({ s with now := s.now + dt } : State).arbitrate

/-- Steps 5 to 8, before a block's own checks. A body length that fails step 5 is answered BAD_REQUEST, a code that
names no request UNKNOWN_CODE, a request whose class does not allow its origin or session NOT_PERMITTED or NOT_HOLDER,
and a body that is not of the request's size BAD_REQUEST. Each answer has an empty body, is stored in the session, and
reaches no block (R158, R159, R167, R168, R210). Which commands take a frame whose code names no request, and which a
SET_STATION that names no action, is the model's choice (log 3). -/
def Obligations.RefusedByClassReachesNoBlock : Prop :=
  ∀ (c : Instr) (dt : Nat) (code : Byte) (k : PermissionClass) (s : State) (e : InputEntry),
    requestOf c = some (dt, code, k) → Taken s e → Enveloped e → FirstAsked s e →
    let answered := fun status : Byte =>
      ∃ t, exec c s = .next t ∧ Answered s t e status [] ∧ OnlyAnswered dt s t e ∧ Counted s t true
    ((envCode e.bytes = code ∧ (∀ d, c ≠ .readCountersClear d)) ∨ NamesNoRequest (envCode e.bytes) →
        FailsStepFive e → answered 0x01)
    ∧ (NamesNoRequest (envCode e.bytes) → ¬ FailsStepFive e → answered 0x02)
    ∧ (∀ body, Carries e code body → bodySpells c body = true ∨ (code = 0x33 ∧ NamesNoAction body) →
        (∀ status, refusedByClass s e k = some status → answered status)
        ∧ (refusedByClass s e k = none → bodyFits c body = false → answered 0x01))

/-- Steps 1 to 3: a wrong version or kind is discarded silently; tag 0 is answered BAD_REQUEST and a session key met
from another origin NOT_PERMITTED, neither of them stored, and no session and no lease changes (R159, R161). -/
def Obligations.EnvelopeRefusalsTouchNoSession : Prop :=
  ∀ (c : Instr) (dt : Nat) (k : PermissionClass) (s : State) (e : InputEntry) (body : List Byte),
    Requests c dt k e body → Taken s e →
    (Enveloped e → ∃ x, sessionOf s e = some x ∧ x.origin ≠ e.origin) →
    let discarded := envVersion e.bytes ≠ 1 ∨ envKind e.bytes ≠ 1
    let status : Byte := if envTag e.bytes = 0 then 0x01 else 0x03
    ∃ t, exec c s = .next t ∧ t.now = s.now + dt ∧ SameTables s t ∧ SamePorts s t
      ∧ (e.origin = .uplink ∨ discarded → t.line = s.line ∧ t.notices = s.notices)
      ∧ t.agent.input = s.agent.input.tail ∧ t.agent.sessions = s.agent.sessions ∧ t.agent.lease = s.agent.lease
      ∧ t.agent.softReset = false
      ∧ t.agent.counters.requestsTaken = s.agent.counters.requestsTaken + 1
      ∧ t.agent.counters.replays = s.agent.counters.replays
      ∧ (discarded → t.agent.output = s.agent.output
          ∧ t.agent.counters.envelopeDiscards = s.agent.counters.envelopeDiscards + 1
          ∧ t.agent.counters.refused = s.agent.counters.refused)
      ∧ (¬ discarded → t.agent.counters.envelopeDiscards = s.agent.counters.envelopeDiscards
          ∧ t.agent.counters.refused = s.agent.counters.refused + 1
          ∧ t.agent.output = s.agent.output
              ++ (if e.origin = .uplink then [⟨responseTo s e status [], false⟩] else []))

/-- Step 4: a request whose sequence equals the last sequence of its session is answered with the stored response and
is not executed, whatever it asks; the lease is renewed if the session holds it (R163, R171). -/
def Obligations.ReplayIsNotExecuted : Prop :=
  ∀ (c : Instr) (dt : Nat) (k : PermissionClass) (s : State) (e : InputEntry) (body stored : List Byte) (x : Session),
    Requests c dt k e body → Taken s e → Enveloped e → sessionOf s e = some x → x.origin = e.origin →
    x.last = some (envSeq e.bytes, stored) →
    ∃ t, exec c s = .next t ∧ OnlyAnswered dt s t e
      ∧ t.agent.input = s.agent.input.tail
      ∧ sessionOf t e = some { x with lastTake := s.now + dt }
      ∧ t.agent.output = s.agent.output ++ (if e.origin = .uplink then [⟨stored, false⟩] else [])
      ∧ t.agent.counters.requestsTaken = s.agent.counters.requestsTaken + 1
      ∧ t.agent.counters.replays = s.agent.counters.replays + 1
      ∧ t.agent.counters.refused = s.agent.counters.refused

/-- A request of an unknown session makes a record at the end of the table; a full table first gives up the record that
has been idle longest, counted in whole seconds, of those that do not hold the lease, the earliest created of equals
(R161, R162). -/
def Obligations.EvictionSparesTheHolder : Prop :=
  ∀ (c : Instr) (dt : Nat) (k : PermissionClass) (s : State) (e : InputEntry) (body : List Byte),
    Requests c dt k e body → Taken s e → Enveloped e → sessionOf s e = none → SessionLaw s →
    let key := fun x : Session => (x.address, x.tag)
    let idle := fun x : Session => (s.now + dt - x.lastTake) / 100000000
    let spared := fun x : Session => s.agent.holds x.address x.tag = true
    ∃ t, exec c s = .next t
      ∧ (s.agent.sessions.length < 4 →
          t.agent.sessions.map key = s.agent.sessions.map key ++ [(frameSrc e.bytes, envTag e.bytes)]
          ∧ t.agent.counters.sessionsEvicted = s.agent.counters.sessionsEvicted)
      ∧ (s.agent.sessions.length = 4 → ∃ before v after, s.agent.sessions = before ++ v :: after ∧ ¬ spared v
          ∧ (∀ w ∈ before, ¬ spared w → idle w < idle v) ∧ (∀ w ∈ after, ¬ spared w → idle w ≤ idle v)
          ∧ t.agent.sessions.map key
              = (before ++ after).map key ++ [(frameSrc e.bytes, envTag e.bytes)]
          ∧ t.agent.counters.sessionsEvicted = s.agent.counters.sessionsEvicted + 1)

/-- The answer to a trunk-origin request is enqueued at the tail of DX, or dropped and counted when DX or the pool has
no room; the session stores it all the same (R166). Stated of IDENTIFY outside FLOOR, whose answer needs one cell. -/
def Obligations.TrunkAnswerGoesToDX : Prop :=
  ∀ (dt : Nat) (s : State) (e : InputEntry) (n : Nat), Asked s e 0x01 [] → e.origin = .trunk n →
    s.engine.phase ≠ some .floor →
    ∃ t body, exec (.identify dt) s = .next t ∧ Answered s t e 0x00 body ∧ body.length = 32
      ∧ let fits := s.queues.dx.frames.length + 1 ≤ s.queues.dx.frameLimit
                      ∧ cellSum s.queues.dx.frames + 1 ≤ s.queues.dx.cellLimit ∧ 1 ≤ s.queues.free
        (fits → t.queues.dx.frames = s.queues.dx.frames ++ [⟨responseTo s e 0x00 body, .agent, none, some 0⟩]
          ∧ t.queues.dx.counters.enqueued = s.queues.dx.counters.enqueued + 1
          ∧ t.queues.free = s.queues.free - 1
          ∧ t.agent.counters.responsesDropped = s.agent.counters.responsesDropped)
        ∧ (¬ fits → t.queues.dx.frames = s.queues.dx.frames ∧ t.queues.free = s.queues.free
          ∧ t.agent.counters.responsesDropped = s.agent.counters.responsesDropped + 1)

/-! ### Requests of the lease holder -/

/-- START_TRUNK from the holder: WRONG_STATE outside STOPPED, NO_TABLE with an empty ACTIVE, otherwise STARTING with the
wait for a quiet interval and a slow flash. STOP_TRUNK from the holder, by trunk state and phase: no change, STOPPING
while a call or a head frame is in flight, otherwise STOPPED at once with a marker cut short (R15, R25 to R27, R84,
R213). That TRUNK_STATE comes before TABLE_SWAPPED there, with the generation before the swap (log 8), and that the
intervals begun run from the moment of the request itself, on an edge of TK_CLK or not (log 25), are the model's
choices. -/
def Obligations.StartAndStopTrunk : Prop :=
  (∀ (dt : Nat) (s : State) (e : InputEntry), Asked s e 0x21 [] → FromHolder s e →
      ∃ t, exec (.startTrunk dt) s = .next t ∧ RequestFrame dt s t e ∧ SameIdentity s t ∧ t.store = s.store
        ∧ t.stations = s.stations ∧ t.admission = s.admission ∧ t.trunkCounters = s.trunkCounters ∧ SameTraffic s t
        ∧ if s.engine.trunk ≠ .stopped then Answered s t e 0x0D [] ∧ t.engine = s.engine ∧ t.led = s.led
          else if s.store.active.entries = [] then Answered s t e 0x0E [] ∧ t.engine = s.engine ∧ t.led = s.led
          else Answered s t e 0x00 [0x01]
            ∧ t.engine = { s.engine with trunk := .starting, quietFrom := some (s.now + dt) }
            ∧ t.led = { lit := true, stretch := some (s.now + dt + 50000000) })
  ∧ (∀ (dt : Nat) (s : State) (e : InputEntry), Asked s e 0x22 [] → FromHolder s e →
      let inFlight := s.engine.phase = some .awaiting ∨ s.engine.phase = some .receiving
        ∨ s.engine.phase = some .continuing ∨ s.engine.phase = some .closing
        ∨ ((s.engine.phase = some .sending ∨ s.engine.phase = some .floor) ∧ s.line.tx ≠ none)
      let now := s.now + dt
      ∃ t, exec (.stopTrunk dt) s = .next t ∧ RequestFrame dt s t e ∧ SameIdentity s t
        ∧ t.stations = s.stations ∧ t.admission = s.admission ∧ t.trunkCounters = s.trunkCounters
        ∧ t.queues = s.queues
        ∧ (s.engine.trunk = .stopping → Answered s t e 0x00 [0x03] ∧ SameEngine s t ∧ t.store = s.store
            ∧ t.notices = s.notices)
        ∧ (s.engine.trunk = .stopped → Answered s t e 0x00 [0x00] ∧ SameEngine s t ∧ t.store = s.store
            ∧ t.notices = s.notices)
        ∧ (s.engine.trunk = .running → inFlight → Answered s t e 0x00 [0x03]
            ∧ t.engine = { s.engine with trunk := .stopping }
            ∧ t.led = { lit := true, stretch := some (now + 50000000) }
            ∧ t.line = s.line ∧ t.store = s.store ∧ t.notices = s.notices)
        ∧ (s.engine.trunk = .starting ∨ s.engine.trunk = .blocked ∨ (s.engine.trunk = .running ∧ ¬ inFlight) →
            Answered s t e 0x00 [0x00]
            ∧ t.engine = (stoppedFrom s).engine ∧ t.led = {} ∧ t.store = (stoppedFrom s).store
            ∧ t.notices = (stoppedFrom s).notices
            ∧ t.line = if s.line.tx = none then s.line
                else { s.line with tx := none, echo := some { ends := now + 80, cut := false, colRose := false } }))

/-- ENROL_STATION from the holder: its checks in order, then a new record in station order, UNSEEN with everything at 0,
and its notice. WITHDRAW_STATION: refused out of range, without a record, or while ACTIVE or an armed PENDING names the
station; otherwise the record goes, with its notice (R60, R61, R75, R76, R81, R196). That presence bits 3 to 7 of the
station item answered are 0 is the model's choice (log 22). -/
def Obligations.EnrolAndWithdrawStation : Prop :=
  (∀ (dt : Nat) (s : State) (e : InputEntry) (n presence a0 a1 a2 a3 a4 a5 : Byte),
      Asked s e 0x31 [n, presence, a0, a1, a2, a3, a4, a5] → FromHolder s e →
      let bound : Option Addr := if presence.getLsbD 0 then some (a0 ++ a1 ++ a2 ++ a3 ++ a4 ++ a5) else none
      let r : Station := { station := n.toNat, bound := bound, clearStamp := s.identity.seconds }
      ∃ t, exec (.enrolStation dt) s = .next t ∧ RequestFrame dt s t e ∧ SameEngine s t ∧ SameIdentity s t
        ∧ t.store = s.store ∧ t.admission = s.admission ∧ t.queues = s.queues
        ∧ if n.toNat = 0 ∨ 30 < n.toNat then
            Answered s t e 0x06 [0x20, 0xFF] ∧ t.stations = s.stations ∧ t.notices = s.notices
          else if presence.getLsbD 0 ∧ a0.getLsbD 0 then
            Answered s t e 0x06 [0x21, 0xFF] ∧ t.stations = s.stations ∧ t.notices = s.notices
          else if (s.station? n.toNat).isSome then
            Answered s t e 0x0B [] ∧ t.stations = s.stations ∧ t.notices = s.notices
          else Answered s t e 0x00 r.bytes ∧ t.stations.Perm (r :: s.stations)
            ∧ (s.stations.Pairwise (fun a b => a.station < b.station) →
                t.stations.Pairwise (fun a b => a.station < b.station))
            ∧ t.notices = s.notices.raise s.engine.round .stationState (some n.toNat) ⟨0x00, 0x01, 0, 0⟩)
  ∧ (∀ (dt : Nat) (s : State) (e : InputEntry) (n : Byte), Asked s e 0x32 [n] → FromHolder s e →
      let naming := fun b : Bank => b.entries.findIdx? fun x => x.station == n.toNat
      let kept := fun t : State => t.stations = s.stations ∧ t.notices = s.notices
      ∃ t, exec (.withdrawStation dt) s = .next t ∧ RequestFrame dt s t e ∧ SameEngine s t ∧ SameIdentity s t
        ∧ t.store = s.store ∧ t.admission = s.admission ∧ t.queues = s.queues
        ∧ if n.toNat = 0 ∨ 30 < n.toNat then Answered s t e 0x06 [0x20, 0xFF] ∧ kept t
          else match s.station? n.toNat with
            | none => Answered s t e 0x0A [] ∧ kept t
            | some r =>
              match naming s.store.active with
              | some i => Answered s t e 0x0C [0x00, byteOf i] ∧ kept t
              | none =>
                match if s.store.armed then naming s.store.pending else none with
                | some i => Answered s t e 0x0C [0x01, byteOf i] ∧ kept t
                | none => Answered s t e 0x00 []
                  ∧ t.stations = s.stations.filter (fun x => x.station != n.toNat)
                  ∧ t.notices = s.notices.raise s.engine.round .stationState (some n.toNat)
                      ⟨0xFF, 0x08, byteOf r.missCount, byteOf r.strikeCount⟩)

/-- SET_STATION from the holder: its checks in order, then one record changed by its action and returned as it then
stands; MUTE raises a notice when the state or the cause changed, RESTORE always, BIND and UNBIND never (R77 to
R79). That presence bits 3 to 7 of the station item answered are 0 is the model's choice (log 22), and so is that an
action that is none of the four is taken under each of the four commands (log 3). -/
def Obligations.SetStationChangesOneRecord : Prop :=
  ∀ (c : Instr) (dt : Nat) (s : State) (e : InputEntry) (n action a0 a1 a2 a3 a4 a5 : Byte),
    ((c = .setStationMute dt ∧ (action = 1 ∨ action = 0 ∨ 4 < action.toNat))
      ∨ (c = .setStationRestore dt ∧ (action = 2 ∨ action = 0 ∨ 4 < action.toNat))
      ∨ (c = .setStationBind dt ∧ (action = 3 ∨ action = 0 ∨ 4 < action.toNat))
      ∨ (c = .setStationUnbind dt ∧ (action = 4 ∨ action = 0 ∨ 4 < action.toNat))) →
    Asked s e 0x33 [n, action, a0, a1, a2, a3, a4, a5] → FromHolder s e →
    let kept := fun t : State => t.stations = s.stations ∧ t.notices = s.notices
    let raised := fun (r : Station) (cause : Byte) => s.notices.raise s.engine.round .stationState (some r.station)
      ⟨r.state.code, cause, byteOf r.missCount, byteOf r.strikeCount⟩
    let becomes := fun (t : State) (r' : Station) => Answered s t e 0x00 r'.bytes
      ∧ t.stations = s.stations.map fun x => if x.station = n.toNat then r' else x
    ∃ t, exec c s = .next t ∧ RequestFrame dt s t e ∧ SameEngine s t ∧ SameIdentity s t
      ∧ t.store = s.store ∧ t.admission = s.admission ∧ t.queues = s.queues
      ∧ if n.toNat = 0 ∨ 30 < n.toNat then Answered s t e 0x06 [0x20, 0xFF] ∧ kept t
        else if action = 0 ∨ 4 < action.toNat then Answered s t e 0x06 [0x22, 0xFF] ∧ kept t
        else match s.station? n.toNat with
          | none => Answered s t e 0x0A [] ∧ kept t
          | some r =>
            (action = 1 → let r' := { r with state := .muted, muteCause := some .manual }
              becomes t r' ∧ t.notices = if r.state = .muted ∧ r.muteCause = some .manual then s.notices
                else raised r' 0x06)
            ∧ (action = 2 →
                let r' := { r with state := .unseen, missCount := 0, strikeCount := 0, cleanRun := 0, muteCause := none }
                becomes t r' ∧ t.notices = raised r' 0x07)
            ∧ (action = 3 → if a0.getLsbD 0 then Answered s t e 0x06 [0x21, 0xFF] ∧ kept t
                else becomes t { r with bound := some (a0 ++ a1 ++ a2 ++ a3 ++ a4 ++ a5) } ∧ t.notices = s.notices)
            ∧ (action = 4 → becomes t { r with bound := none } ∧ t.notices = s.notices)

/-- WRITE_RULES from the holder: COUNT, then the first rule out of range by its table index; otherwise the rules at `f`
on are replaced with their hit counters at 0, and no other rule and no default changes. SET_DEFAULTS: AGENT or an
unknown action is refused with the first direction that fails, UP first; otherwise both defaults are replaced and the
default-hit counters stay (R114 to R116). -/
def Obligations.WriteRulesAndSetDefaults : Prop :=
  (∀ (dt : Nat) (s : State) (e : InputEntry) (f : Byte) (rs : List (List Byte)),
      Asked s e 0x41 ([f, byteOf rs.length] ++ rs.flatten) → FromHolder s e → (∀ x ∈ rs, x.length = 18) →
      s.admission.rules.length = 16 →
      ∃ t, exec (.writeRules dt) s = .next t ∧ RequestFrame dt s t e ∧ SameEngine s t ∧ SameIdentity s t
        ∧ t.store = s.store ∧ t.stations = s.stations ∧ t.queues = s.queues ∧ t.notices = s.notices
        ∧ (16 < f.toNat + rs.length → Answered s t e 0x06 [0x03, 0xFF] ∧ t.admission = s.admission)
        ∧ (f.toNat + rs.length ≤ 16 →
            (∀ i x, rs[i]? = some x → ¬ RuleInRange x → (∀ j y, j < i → rs[j]? = some y → RuleInRange y) →
              Answered s t e 0x06 [0x30, byteOf (f.toNat + i)] ∧ t.admission = s.admission)
            ∧ ((∀ x ∈ rs, RuleInRange x) → Answered s t e 0x00 [byteOf rs.length]
              ∧ t.admission = { s.admission with rules := t.admission.rules }
              ∧ t.admission.rules.length = 16
              ∧ ∀ i, i < 16 → t.admission.rules[i]? =
                  if f.toNat ≤ i ∧ i < f.toNat + rs.length then (rs[i - f.toNat]?).map ruleOf
                  else s.admission.rules[i]?)))
  ∧ (∀ (dt : Nat) (s : State) (e : InputEntry) (up down : Byte), Asked s e 0x42 [up, down] → FromHolder s e →
      ∃ t, exec (.setDefaults dt) s = .next t ∧ RequestFrame dt s t e ∧ SameEngine s t ∧ SameIdentity s t
        ∧ t.store = s.store ∧ t.stations = s.stations ∧ t.queues = s.queues ∧ t.notices = s.notices
        ∧ if 3 ≤ up.toNat then Answered s t e 0x06 [0x31, 0x00] ∧ t.admission = s.admission
          else if 3 ≤ down.toNat then Answered s t e 0x06 [0x31, 0x01] ∧ t.admission = s.admission
          else Answered s t e 0x00 [] ∧ ∃ u d, u.code = up ∧ d.code = down
            ∧ t.admission = { s.admission with defaultUp := u, defaultDown := d })

/-- SET_QUEUE_LIMITS from the holder: its checks in order, the occupancy among them, otherwise both limits of the one
queue are replaced. FLUSH_QUEUE empties the one queue, returns its cells to the pool, counts its frames as flushed, and
leaves its limits, the slots and the other queues (R135, R136). -/
def Obligations.SetQueueLimitsAndFlushQueue : Prop :=
  (∀ (dt : Nat) (s : State) (e : InputEntry) (code fh fl ch cl : Byte), Asked s e 0x51 [code, fh, fl, ch, cl] →
      FromHolder s e →
      let frames := 256 * fh.toNat + fl.toNat
      let cells := 256 * ch.toNat + cl.toNat
      ∃ t, exec (.setQueueLimits dt) s = .next t ∧ RequestFrame dt s t e ∧ SameEngine s t ∧ SameIdentity s t
        ∧ t.store = s.store ∧ t.stations = s.stations ∧ t.admission = s.admission ∧ t.notices = s.notices
        ∧ (2 < code.toNat → Answered s t e 0x06 [0x40, 0xFF] ∧ t.queues = s.queues)
        ∧ ∀ name : QueueName, name.code = code →
            let q := s.queues.get name
            let occupancy := bytes2 q.frames.length ++ bytes2 (cellSum q.frames)
            if frames < 1 ∨ 256 < frames then Answered s t e 0x06 [0x41, 0xFF] ∧ t.queues = s.queues
            else if cells < 12 ∨ 512 < cells then Answered s t e 0x06 [0x42, 0xFF] ∧ t.queues = s.queues
            else if frames < q.frames.length ∨ cells < cellSum q.frames then
              Answered s t e 0x06 ([0x43, 0xFF] ++ occupancy) ∧ t.queues = s.queues
            else Answered s t e 0x00 ([code] ++ [fh, fl, ch, cl] ++ occupancy)
              ∧ (t.queues.get name).frameLimit = frames ∧ (t.queues.get name).cellLimit = cells
              ∧ t.queues = s.queues.on name fun x => { x with frameLimit := frames, cellLimit := cells })
  ∧ (∀ (dt : Nat) (s : State) (e : InputEntry) (code : Byte), Asked s e 0x52 [code] → FromHolder s e →
      ∃ t, exec (.flushQueue dt) s = .next t ∧ RequestFrame dt s t e ∧ SameEngine s t ∧ SameIdentity s t
        ∧ t.store = s.store ∧ t.stations = s.stations ∧ t.admission = s.admission ∧ t.notices = s.notices
        ∧ (2 < code.toNat → Answered s t e 0x06 [0x40, 0xFF] ∧ t.queues = s.queues)
        ∧ ∀ name : QueueName, name.code = code →
            let q := s.queues.get name
            Answered s t e 0x00 (bytes2 q.frames.length ++ bytes2 (cellSum q.frames))
            ∧ t.queues.get name = { q with
                frames := []
                counters := { q.counters with flushed := q.counters.flushed + BitVec.ofNat 32 q.frames.length } }
            ∧ (∀ other, other ≠ name → t.queues.get other = s.queues.get other)
            ∧ t.queues.free = s.queues.free + cellSum q.frames
            ∧ t.queues.trunkSlot = s.queues.trunkSlot ∧ t.queues.uplinkSlot = s.queues.uplinkSlot)

/-- ACK_NOTICES from the holder, or from any uplink session while no lease is held, removes every record its number
covers and sets the lost count to 0; the records left keep everything (R190). -/
def Obligations.AckNoticesRemovesWhatItCovers : Prop :=
  ∀ (dt : Nat) (s : State) (e : InputEntry) (hi lo : Byte), Asked s e 0x61 [hi, lo] → e.origin = .uplink →
    (s.agent.lease = none ∨ FromHolder s e) →
    let left := s.notices.records.filter fun r => ¬ ((hi ++ lo : BitVec 16) - r.number).toNat < 32768
    let removed := s.notices.records.length - left.length
    ∃ t, exec (.ackNotices dt) s = .next t ∧ t.now = s.now + dt ∧ SameTables s t ∧ SamePorts s t
      ∧ t.queues = s.queues ∧ t.line = s.line ∧ t.agent.lease = leaseAfterTake s e t.now
      ∧ Answered s t e 0x00 ([byteOf removed] ++ bytes2 s.notices.lost ++ [byteOf left.length]) ∧ Counted s t false
      ∧ t.notices = { s.notices with records := left, lost := 0, counters :=
          { s.notices.counters with
            acknowledged := s.notices.counters.acknowledged + BitVec.ofNat 32 removed } }

/-! ### Admission and queues -/

/-- The first enabled rule that matches decides and its hit counter advances by 1; if none matches, the default of the
frame's direction decides and that default-hit counter advances; nothing else changes (R105 to R109). The action then
sends the frame to one place: FORWARD and EXPEDITE enqueue an UP frame in its band of UQ and a DOWN frame in DN or DX,
DROP discards it, and AGENT hands it to the agent's input list with its origin, or discards and counts it for its type,
its length or want of a place (R110 to R112). -/
def Obligations.FirstMatchingRuleDecides : Prop :=
  ∀ (p : Presented) (a : Admission),
    let up := p.station.isSome
    let selects := fun r : Rule => r.enabled = true
      ∧ (r.direction = .either ∨ (r.direction = .up ∧ up = true) ∨ (r.direction = .down ∧ up = false))
      ∧ (∀ i, i < 48 → r.mask.getLsbD i = true → (addrAt p.bytes 0).getLsbD i = r.value.getLsbD i)
      ∧ (∀ x, r.type = some x → x = byteAt p.bytes 12 ++ byteAt p.bytes 13)
      ∧ (∀ n, r.origin = some n → p.station = some n)
    (∀ i r, a.rules[i]? = some r → selects r → (∀ j q, j < i → a.rules[j]? = some q → ¬ selects q) →
      a.decide p = (r.action, { a with rules := a.rules.set i { r with hits := r.hits + 1 } }))
    ∧ ((∀ r ∈ a.rules, ¬ selects r) →
      a.decide p = if up then (a.defaultUp, { a with hitsUp := a.hitsUp + 1 })
        else (a.defaultDown, { a with hitsDown := a.hitsDown + 1 }))
    ∧ ∀ (s : State), s.admission = a →
      let decided : State := { s with admission := (a.decide p).2 }
      s.present p = match (a.decide p).1, p.station with
        | .forward, some n => decided.enqueue .uq ⟨p.bytes, .trunk n, some .normal, none⟩
        | .expedite, some n => decided.enqueue .uq ⟨p.bytes, .trunk n, some .expedited, none⟩
        | .forward, none => decided.enqueue .dn ⟨p.bytes, .uplink, none, some 0⟩
        | .expedite, none => decided.enqueue .dx ⟨p.bytes, .uplink, none, some 0⟩
        | .drop, _ => decided
        | .agent, station =>
          if (byteAt p.bytes 12 ++ byteAt p.bytes 13 : BitVec 16) ≠ 0xA7D1 ∨ 508 < p.bytes.length then
            { decided with admission :=
              { (a.decide p).2 with agentRejects := (a.decide p).2.agentRejects + 1 } }
          else if s.agent.input.length < 4 then
            { decided with agent := { s.agent with input := s.agent.input
                ++ [⟨match station with | some n => .trunk n | none => .uplink, p.bytes⟩] } }
          else { decided with agent := { s.agent with counters :=
            { s.agent.counters with inputDrops := s.agent.counters.inputDrops + 1 } } }

/-- An enqueue meets the link, frame limit, cell limit and pool checks in this order; the first that fails drops the
frame under its own counter, a POOL drop with its notice; a frame that passes takes its cells and joins its queue, an
expedited one behind the last expedited (R120, R124, R125). Stated for a frame that the floor fill does not consider. -/
def Obligations.EnqueueChecksInOrder : Prop :=
  ∀ (name : QueueName) (f : Frame) (s : State),
    (name = .dx → s.queues.dx.frames = [] → s.engine.phase ≠ some .floor) →
    let q := s.queues.get name
    let c := cellsOf f.bytes.length
    let counted := fun k : QueueCounters => { s with queues := s.queues.on name fun x => { x with counters := k } }
    s.enqueue name f =
      if name = .uq ∧ s.uplink.link = false then counted { q.counters with linkDown := q.counters.linkDown + 1 }
      else if q.frameLimit < q.frames.length + 1 then
        counted { q.counters with frameLimit := q.counters.frameLimit + 1 }
      else if q.cellLimit < cellSum q.frames + c then
        counted { q.counters with cellLimit := q.counters.cellLimit + 1 }
      else if s.queues.free < c then
        { counted { q.counters with pool := q.counters.pool + 1 } with
          notices := s.notices.raise s.engine.round .poolExhausted none
            ⟨name.code, byteOf c, byteOf (s.queues.free / 256), byteOf s.queues.free⟩ }
      else
        let joined := if f.band = some .expedited then
            q.frames.takeWhile (fun x => x.band == some .expedited) ++ f
              :: q.frames.dropWhile (fun x => x.band == some .expedited)
          else q.frames ++ [f]
        { s with queues := { s.queues.on name (fun x => { x with frames := joined, counters :=
            { q.counters with enqueued := q.counters.enqueued + 1 } }) with free := s.queues.free - c } }

/-! ### Outcomes -/

/-- A report changes one record as its outcome says: the counts, the state with its cause, the clean run and the
counter of the outcome; an answer clears the misses and brings UNSEEN and LAPSED to PRESENT, a miss lapses at the miss
limit, a strike mutes at the strike limit, an overrun mutes from every state, a stray changes nothing but the clean
run, and a MUTED station stays MUTED (R64 to R71). -/
def Obligations.ReportJudgesByOutcome : Prop :=
  ∀ (h : Header) (p : Report) (r : Station),
    let answered := { r with
      missCount := 0, lastAnswered := some p.round,
      state := if r.state = .unseen ∨ r.state = .lapsed then StationState.present else r.state }
    let cause := if r.state = .unseen ∨ r.state = .lapsed then some StationCause.answered else none
    let clean := fun x : Station => if r.cleanRun + 1 = 32 then
      { x with cleanRun := 0, strikeCount := r.strikeCount - 1 } else { x with cleanRun := r.cleanRun + 1 }
    let struck := fun x : Station =>
      let n := min 7 (r.strikeCount + 1)
      if h.strikeLimit ≤ n ∧ r.state ≠ .muted then
        ({ x with strikeCount := n, cleanRun := 0, state := .muted, muteCause := some .strikes }, some .strikes)
      else ({ x with strikeCount := n, cleanRun := 0 }, cause)
    (p.outcome = .passed → judge h p r = (clean { answered with counters :=
        { r.counters with passes := r.counters.passes + 1 } }, cause))
    ∧ (p.outcome = .answered → judge h p r =
        if p.badFrames = 0 ∧ p.foreignFrames = 0 then (clean answered, cause)
        else ({ answered with cleanRun := 0 }, cause))
    ∧ (p.outcome = .missed → judge h p r =
        let x := { r with missCount := min 15 (r.missCount + 1), cleanRun := 0,
                          counters := { r.counters with misses := r.counters.misses + 1 } }
        if h.missLimit ≤ min 15 (r.missCount + 1) ∧ (r.state = .unseen ∨ r.state = .present) then
          ({ x with state := .lapsed }, some .misses)
        else (x, none))
    ∧ (p.outcome = .stray → judge h p r = ({ r with cleanRun := 0 }, none))
    ∧ (p.outcome = .collided → judge h p r = struck { answered with counters :=
        { r.counters with collisions := r.counters.collisions + 1 } })
    ∧ (p.outcome = .excess → judge h p r = struck { answered with counters :=
        { r.counters with excess := r.counters.excess + 1 } })
    ∧ (p.outcome = .overrun → judge h p r = ({ r with
        missCount := 0, lastAnswered := some p.round, strikeCount := 7, cleanRun := 0, state := .muted,
        muteCause := some .overrun, counters := { r.counters with overruns := r.counters.overruns + 1 } },
        some .overrun))

/-- The end of a call: the report of its outcome first, then the engine's counters and notices, then TURNAROUND after
PASSED, ANSWERED and MISSED, QUIETING after STRAY, COLLIDED and EXCESS, BLOCKED after OVERRUN; in STOPPING the trunk
enters STOPPED instead, and an overrun counts no blocked entry (R28, R37, R40, R42 to R46). That TRUNK_STATE comes
before TABLE_SWAPPED at that entry, with the generation before the swap, is the model's choice (log 8), and so is that
the credit and the counts of the call stand after it (log 13). -/
def Obligations.OutcomeEndsTheCall : Prop :=
  ∀ (o : CallOutcome) (s : State) (entry : RoundEntry) (r : Station) (i : Nat),
    s.engine.index = some i → s.store.active.entries[i]? = some entry → s.station? entry.station = some r →
    let j := judge s.store.active.header ⟨o, s.engine.round, s.engine.badFrames, s.engine.foreignFrames⟩ r
    let told : State := { s with
      stations := s.stations.map fun x => if x.station = entry.station then j.1 else x
      notices := match j.2 with
        | none => s.notices
        | some cause => s.notices.raise s.engine.round .stationState (some entry.station)
            ⟨j.1.state.code, cause.code, byteOf j.1.missCount, byteOf j.1.strikeCount⟩ }
    let strayCounted : State :=
      { told with trunkCounters := { s.trunkCounters with strays := s.trunkCounters.strays + 1 } }
    let noticed : State := match o with
      | .stray => recovering (some entry.station) 0x01 strayCounted
      | .collided => recovering (some entry.station) 0x02 told
      | .passed | .answered | .missed | .excess | .overrun => told
    s.endCall o =
      if s.engine.trunk = .stopping then
        stoppedFrom (if o = .overrun then { told with trunkCounters :=
          { s.trunkCounters with roundsAbandoned := s.trunkCounters.roundsAbandoned + 1 } } else noticed)
      else match o with
        | .passed | .answered | .missed => turningAround noticed
        | .stray | .collided | .excess => quieting noticed
        | .overrun => blockedFrom (some entry.station) 0x04 told

/-! ### The round engine's entries -/

/-- An entry start takes the next index. A station entry is called when its station is UNSEEN or PRESENT, or LAPSED at
its first entry of a probe round, and skipped otherwise; a head entry takes its first frame, or is skipped when every
queue its drain selects is empty; after the last entry the round ends, in FLOOR while its floor is ahead and at a round
boundary otherwise (R31, R33 to R36, R48, R49, R57). The next entry after a skipped one is started in the same event. -/
def Obligations.EntryStartCallsSkipsOrEnds : Prop :=
  ∀ s : State,
    let k := match s.engine.index with | none => 0 | some i => i + 1
    let seen := fun n : Nat => if n ∈ s.engine.firstEntry then s.engine.firstEntry else s.engine.firstEntry ++ [n]
    let probe := s.engine.round.toNat % s.store.active.header.probePeriod = 0
    (∀ e r, s.store.active.entries[k]? = some e → e.station ≠ 0 → s.station? e.station = some r →
      (if r.state = .unseen ∨ r.state = .present ∨ (r.state = .lapsed ∧ probe ∧ e.station ∉ s.engine.firstEntry) then
        s.startEntry = { s with
          engine := { s.engine.enter .calling with index := some k, firstEntry := seen e.station, credit := e.credit,
                                                   framesInCall := 0, badFrames := 0, foreignFrames := 0 }
          line := { s.line with
            tx := some ⟨.marker ⟨0x2C, byteOf e.station, byteOf e.credit⟩, s.now + 480⟩, echo := none } }
      else
        s.startEntry = State.startEntry { s with
          engine := { s.engine with index := some k, firstEntry := seen e.station }
          stations := s.stations.map fun x => if x.station = e.station then
            { x with counters := { x.counters with callsSkipped := x.counters.callsSkipped + 1 } } else x }))
    ∧ (∀ e, s.store.active.entries[k]? = some e → e.station = 0 → s.queues.trunkSlot = none →
      let started : State :=
        { s with engine := { s.engine.enter .sending with index := some k, credit := e.credit - 1 } }
      match e.drain, s.queues.dx.frames, s.queues.dn.frames with
      | .expFirst, f :: rest, _ => s.startEntry = takenFrom .dx f rest started
      | .expOnly, f :: rest, _ => s.startEntry = takenFrom .dx f rest started
      | .expFirst, [], f :: rest => s.startEntry = takenFrom .dn f rest started
      | .normalOnly, _, f :: rest => s.startEntry = takenFrom .dn f rest started
      | _, _, _ => s.startEntry = State.startEntry { s with engine := { s.engine with index := some k } })
    ∧ (s.store.active.entries[k]? = none →
      let ended : State := { s with engine := { s.engine with index := none } }
      let ahead := s.store.active.header.floor ≠ 0
        ∧ ∃ start, s.engine.roundStart = some start ∧ s.now < start + s.store.active.header.floor * 100
      (¬ ahead → s.startEntry = roundStartedFrom ended)
      ∧ (ahead → s.startEntry = State.considerFill
          { s with engine := { s.engine.enter .floor with index := none } }))

/-- The floor fill considers the front frame of DX in FLOOR of a running trunk while it is not suspended and nothing is
on air or in its gap; the frame is taken if it ends with its gap no later than the floor, and otherwise stays (R58).
That a fill frame leaves the remaining credit as it is (log 13), and that it is judged and sent from the moment of the
event itself, on an edge of TK_CLK or not (log 25), are the model's choices. -/
def Obligations.FloorFillTakesWhatFits : Prop :=
  ∀ (s : State) (start : Nat), s.engine.roundStart = some start → s.store.active.header.floor ≠ 0 →
    s.queues.trunkSlot = none →
    let idle := s.engine.trunk = .running ∧ s.engine.phase = some .floor ∧ s.engine.fillSuspended = false
      ∧ s.line.tx = none ∧ s.engine.gap = none
    (¬ idle → s.considerFill = s)
    ∧ (s.queues.dx.frames = [] → s.considerFill = s)
    ∧ (∀ f rest, idle → s.queues.dx.frames = f :: rest →
        s.considerFill =
          if s.now + ((f.bytes.length + 8) * 8 + 96) * 10 ≤ start + s.store.active.header.floor * 100 then
            takenFrom .dx f rest s
          else s)

/-! ### The round engine's timers -/

/-- The end of a ROUND_START leads to TURNAROUND; the end of a CALL issues the call and starts the answer window of the
entry, or of ACTIVE's header where the entry has none. In both TK_TXEN falls and the echo allowance runs. Until then
TK_TXD carries for one BT each the 48 bits of the lead-in, the type, A, B and the check, each byte least significant bit
first (R32, R36, R37, R52, R82, R83, R92, R212). That TK_TXD carries nothing outside them is the model's choice (log
24). -/
def Obligations.MarkerEndLeadsOn : Prop :=
  ∀ (s : State) (m : Marker) (ends : Nat), s.resetRun = none → s.line.tx = some ⟨.marker m, ends⟩ →
    let sent := quieted false { s with now := max s.now ends }
    let wire : List Byte := [0x33, 0x0F, m.type, m.a, m.b, 255 - (m.type + m.a + m.b)]
    (s.tkTxen = true)
    ∧ (∀ i moment : Nat, i < 48 → ends + 10 * i ≤ moment + 480 → moment + 480 < ends + 10 * (i + 1) →
        s.tkTxd moment = some ((wire.getD (i / 8) 0).getLsbD (i % 8)))
    ∧ (∀ moment : Nat, moment + 480 < ends ∨ ends ≤ moment → s.tkTxd moment = none)
    ∧ (s.engine.phase = some .roundMark → exec .markerEnd s = .next (turningAround sent).arbitrate)
    ∧ (∀ i e, s.engine.phase = some .calling → s.engine.index = some i → s.store.active.entries[i]? = some e →
      exec .markerEnd s = .next ({ sent with
        stations := s.stations.map fun x => if x.station = e.station then
          { x with counters := { x.counters with callsIssued := x.counters.callsIssued + 1 } } else x
        engine := { s.engine.enter .awaiting with
          timer := some (max s.now ends + (e.window.getD s.store.active.header.answerWindow) * 10) } }
        : State).arbitrate)

/-- The end of a head frame: its cells return and its queue's transmitted counter advances; a head entry ends in
TURNAROUND when its credit is used or every selected queue is empty, and otherwise runs the gap, as a fill frame does; in
STOPPING the trunk enters STOPPED. Until then TK_TXD carries for one BT each the bits of seven bytes of preamble, the
start delimiter and the frame of the trunk on-air slot as it is held, least significant bit first (R28, R49, R50, R58,
R82, R93, R131, R212). That TRUNK_STATE comes before TABLE_SWAPPED at the entry into STOPPED, with the generation before
the swap (log 8), and that TK_TXD carries nothing outside the frame (log 24), are the model's choices. -/
def Obligations.HeadFrameEndReleasesItsCells : Prop :=
  ∀ (s : State) (x : TrunkSlot) (ends : Nat), s.resetRun = none → s.line.tx = some ⟨.frame, ends⟩ →
    s.queues.trunkSlot = some x →
    let released := { s.queues.on x.queue (fun q => { q with counters :=
        { q.counters with transmitted := q.counters.transmitted + 1 } }) with
      trunkSlot := none, free := s.queues.free + cellsOf x.frame.bytes.length }
    let sent := quieted false { s with now := max s.now ends, queues := released }
    let gapped : State := { sent with engine := { s.engine with gap := some (max s.now ends + 960) } }
    let empty := fun e : RoundEntry =>
      (e.drain ≠ .normalOnly → s.queues.dx.frames = []) ∧ (e.drain ≠ .expOnly → s.queues.dn.frames = [])
    let wire : List Byte := [0x55, 0x55, 0x55, 0x55, 0x55, 0x55, 0x55, 0xD5] ++ x.frame.bytes
    let length := (x.frame.bytes.length + 8) * 80
    (s.tkTxen = true)
    ∧ (∀ i moment : Nat, i < 8 * wire.length → ends + 10 * i ≤ moment + length → moment + length < ends + 10 * (i + 1) →
        s.tkTxd moment = some ((wire.getD (i / 8) 0).getLsbD (i % 8)))
    ∧ (∀ moment : Nat, moment + length < ends ∨ ends ≤ moment → s.tkTxd moment = none)
    ∧ (s.engine.trunk = .stopping → exec .headFrameEnd s = .next (stoppedFrom sent).arbitrate)
    ∧ (∀ i e, s.engine.trunk ≠ .stopping → s.engine.phase = some .sending → s.engine.index = some i →
        s.store.active.entries[i]? = some e →
        exec .headFrameEnd s = .next (if s.engine.credit = 0 ∨ empty e then turningAround sent else gapped).arbitrate)
    ∧ (s.engine.trunk ≠ .stopping → s.engine.phase = some .floor → exec .headFrameEnd s = .next gapped.arbitrate)

/-- The end of the gap: a head entry chooses its queue again and takes the next frame with a unit of credit, or, with
nothing left to take, the next entry is started; in FLOOR the fill considers the front of DX (R48, R49, R58). -/
def Obligations.GapEndTakesTheNextFrame : Prop :=
  ∀ (s : State) (ends : Nat), s.resetRun = none → s.engine.gap = some ends → s.queues.trunkSlot = none →
    let past : State := { s with now := max s.now ends, engine := { s.engine with gap := none } }
    let spent : State := { past with engine := { past.engine with credit := s.engine.credit - 1 } }
    (∀ i e, s.engine.phase = some .sending → s.engine.index = some i → s.store.active.entries[i]? = some e →
      match e.drain, s.queues.dx.frames, s.queues.dn.frames with
      | .expFirst, f :: rest, _ => exec .interFrameGapEnd s = .next (takenFrom .dx f rest spent).arbitrate
      | .expOnly, f :: rest, _ => exec .interFrameGapEnd s = .next (takenFrom .dx f rest spent).arbitrate
      | .expFirst, [], f :: rest => exec .interFrameGapEnd s = .next (takenFrom .dn f rest spent).arbitrate
      | .normalOnly, _, f :: rest => exec .interFrameGapEnd s = .next (takenFrom .dn f rest spent).arbitrate
      | _, _, _ => exec .interFrameGapEnd s = .next past.startEntry.arbitrate)
    ∧ (s.engine.phase = some .floor → exec .interFrameGapEnd s = .next past.considerFill.arbitrate)

/-- The expiry of the answer window gives MISSED, that of the continue window ANSWERED, in CONTINUING and in CLOSING;
the end of the turnaround starts the next entry; the floor expires at the round start plus the floor, with a round
boundary, or QUIETING that leads to it while the fill is suspended (R37, R40, R52, R57). -/
def Obligations.WindowsTurnaroundAndFloorExpire : Prop :=
  (∀ (s : State) (ends : Nat), s.resetRun = none → s.engine.timer = some ends →
      let then_ : State := { s with now := max s.now ends }
      (s.engine.phase = some .awaiting → exec .answerWindowExpiry s = .next (then_.endCall .missed).arbitrate)
      ∧ (s.engine.phase = some .continuing ∨ s.engine.phase = some .closing →
          exec .continueWindowExpiry s = .next (then_.endCall .answered).arbitrate)
      ∧ (s.engine.phase = some .turnaround → exec .turnaroundEnd s = .next then_.startEntry.arbitrate))
  ∧ (∀ (s : State) (start : Nat), s.resetRun = none → s.engine.trunk = .running → s.engine.phase = some .floor →
      s.line.tx = none → s.store.active.header.floor ≠ 0 → s.engine.roundStart = some start →
      let then_ : State := { s with now := max s.now (start + s.store.active.header.floor * 100) }
      let waiting := quieting then_
      (s.engine.fillSuspended = false → exec .floorExpiry s = .next (roundStartedFrom then_).arbitrate)
      ∧ (s.engine.fillSuspended = true → exec .floorExpiry s =
          .next ({ waiting with engine := { waiting.engine with toBoundary := true } } : State).arbitrate))

/-- A quiet interval is seen 256 BT after the later of the wait's beginning and the last CARRIER_OFF, with carrier off.
It takes STARTING and BLOCKED to RUNNING with TRUNK_STATE and a round boundary, QUIETING to the next entry, or to the
boundary after a floor expiry, and resumes a suspended fill (R23, R26, R54, R56, R57, R59). That the 256 BT run from the
wait's beginning itself, also where START_TRUNK begins it off an edge of TK_CLK, is the model's choice (log 25). -/
def Obligations.QuietIntervalEndsTheWait : Prop :=
  ∀ (s : State) (since : Nat), s.resetRun = none → s.line.burst = none → s.engine.quietFrom = some since →
    let now := max s.now (max since (s.line.lastOff.getD 0) + 2560)
    let running := fun cause : Byte => roundStartedFrom { s with
      now := now
      engine := { s.engine with trunk := .running, quietFrom := none }
      led := { lit := true, stretch := none }
      notices := s.notices.raise s.engine.round .trunkState none
        ⟨0x02, cause, s.engine.round, s.store.generation⟩ }
    (s.engine.trunk = .starting → exec .quietInterval s = .next (running 0x01).arbitrate)
    ∧ (s.engine.trunk = .blocked → exec .quietInterval s = .next (running 0x02).arbitrate)
    ∧ (s.engine.trunk = .running → s.engine.phase = some .quieting → s.engine.toBoundary = false →
        exec .quietInterval s = .next (State.startEntry { s with now := now }).arbitrate)
    ∧ (s.engine.trunk = .running → s.engine.phase = some .quieting → s.engine.toBoundary = true →
        exec .quietInterval s = .next (roundStartedFrom { s with now := now }).arbitrate)
    ∧ (s.engine.trunk = .running → s.engine.phase = some .floor → s.engine.gap = none →
        exec .quietInterval s = .next (State.considerFill { s with
          now := now, engine := { s.engine with fillSuspended := false, quietFrom := none } }).arbitrate)

/-! ### Line events -/

/-- A rise of TK_CRS on a free line begins a burst. In AWAITING, CONTINUING and CLOSING it begins a burst of the answer;
in TURNAROUND, QUIETING, FLOOR and the gap it is carrier outside a call; elsewhere the engine does nothing (R24, R37, R40,
R53, R59, R83, R85). That an echo allowance whose end has passed without its command counts as over, with no carrier at
its end, is the model's choice (log 11). -/
def Obligations.CarrierOnBeginsABurst : Prop :=
  ∀ (dt : Nat) (s : State), s.resetRun = none → s.line.tx = none → s.line.burst = none →
    (∀ x, s.line.echo = some x → x.ends ≤ s.now + dt) →
    let on : State := { s with
      now := s.now + dt
      pins := { s.pins with tkCrs := true }
      line := { s.line with echo := none, burst := some { start := s.now + dt } } }
    let receiving := fun o : BurstOrigin =>
      ({ on with engine := { s.engine.enter .receiving with origin := some o } } : State)
    exec (.carrierOn dt) s = .next (State.arbitrate (match s.engine.phase with
      | some .awaiting => receiving .awaiting
      | some .continuing => receiving .continuing
      | some .closing => receiving .closing
      | some .turnaround => quieting (strayed on)
      | some .quieting => strayed on
      | some .floor =>
        { strayed on with engine := { s.engine with fillSuspended := true, quietFrom := some (s.now + dt) } }
      | some .sending => if s.engine.gap = none then on else quieting (strayed on)
      | some .roundMark | some .calling | some .receiving | none => on))

/-- The end of a burst clears the carrier level and is the last CARRIER_OFF. A marker of type ROUND_START or CALL is
counted as foreign and a bad marker as bad, in every state. In RECEIVING the class decides: a PASS of the called station
ends the call PASSED or ANSWERED, a frame uses a unit of credit or is EXCESS in CLOSING, a bad frame is counted on the
station, and everything else is STRAY. The class is read from the burst: NOISE after a COLLISION or an OVERRUN; after the
marker lead-in, MARKER for a whole marker with its check, type and ranges right and BAD_MARKER for anything else; after a
preamble and start delimiter, the frame's class by its length and then its FCS, bits past its last whole byte discarded;
NOISE for the rest (R38 to R44, R73, R85 to R88, R96, R212). -/
def Obligations.CarrierOffDeliversTheClass : Prop :=
  (∀ b : Burst,
    let leadIn : List Bool :=
      [true, true, false, false, true, true, false, false, true, true, true, true, false, false, false, false]
    let sent := fun bytes : List Byte => bytes.flatMap fun x => (List.range 8).map x.getLsbD
    let markerBits := fun m : Marker => leadIn ++ sent [m.type, m.a, m.b, 255 - (m.type + m.a + m.b)]
    let wellFormed := fun m : Marker => m.type = 0x1C
      ∨ (m.type = 0x2C ∧ 1 ≤ m.a.toNat ∧ m.a.toNat ≤ 30 ∧ 1 ≤ m.b.toNat ∧ m.b.toNat ≤ 8)
      ∨ (m.type = 0x3C ∧ 1 ≤ m.a.toNat ∧ m.a.toNat ≤ 30 ∧ m.b = 0)
    let pairAt := fun n : Nat => b.bits[n]? = some true ∧ b.bits[n + 1]? = some true
      ∧ ∀ i, i < n → b.bits[i]? ≠ b.bits[i + 1]?
    (b.collision = true ∨ b.overrun = true → b.classify = .noise)
    ∧ (b.collision = false → b.overrun = false →
      (∀ m, b.bits = markerBits m → wellFormed m → b.classify = .marker m)
      ∧ (b.bits.take 16 = leadIn → (∀ m, b.bits = markerBits m → ¬ wellFormed m) → b.classify = .badMarker)
      ∧ (b.bits.take 16 ≠ leadIn → ∀ n, pairAt n → 30 ≤ n → n + 2 ≤ 64 → ∀ bytes half,
          b.bits.drop (n + 2) = sent bytes ++ half → half.length < 8 →
          b.classify = if bytes.length < 64 ∨ 1522 < bytes.length then .badFrame .length
            else if bytes.drop (bytes.length - 4) = fcsBytes (bytes.take (bytes.length - 4)) then .validFrame bytes
            else .badFrame .fcs)
      ∧ (b.bits.take 16 ≠ leadIn → (∀ n, pairAt n → n < 30 ∨ 64 < n + 2) → b.classify = .noise)))
  ∧ ∀ (dt : Nat) (bits : List Bool) (s : State) (b : Burst), s.resetRun = none → s.line.burst = some b →
    let off : State := { s with
      now := s.now + dt
      pins := { s.pins with tkCrs := false, tkCol := false }
      line := { s.line with burst := none, lastOff := some (s.now + dt) } }
    let k := Burst.classify { b with bits := bits }
    let counted : State := { off with trunkCounters := match k with
      | .badMarker => { s.trunkCounters with badMarkers := s.trunkCounters.badMarkers + 1 }
      | .marker m => if m.type = 0x1C ∨ m.type = 0x2C then
          { s.trunkCounters with foreignMarkers := s.trunkCounters.foreignMarkers + 1 } else s.trunkCounters
      | .validFrame _ | .badFrame _ | .noise => s.trunkCounters }
    (s.engine.phase ≠ some .receiving → exec (.carrierOff dt false bits) s = .next counted.arbitrate)
    ∧ ∀ i e, s.engine.phase = some .receiving → s.engine.index = some i → s.store.active.entries[i]? = some e →
      let spent : Engine := { s.engine with credit := s.engine.credit - 1, framesInCall := s.engine.framesInCall + 1 }
      let onwards := fun g : Engine =>
        ({ g.enter (if g.credit = 0 then .closing else .continuing) with
           timer := some (s.now + dt + s.store.active.header.continueWindow * 10) } : Engine)
      let tally := fun (f : StationCounters → StationCounters) =>
        s.stations.map fun x => if x.station = e.station then { x with counters := f x.counters } else x
      exec (.carrierOff dt false bits) s = .next (State.arbitrate (match k with
        | .marker m =>
          if m.type = 0x3C ∧ m.a.toNat = e.station then
            counted.endCall (if s.engine.framesInCall = 0 then .passed else .answered)
          else counted.endCall .stray
        | .badMarker | .noise => counted.endCall .stray
        | .badFrame reason =>
          if s.engine.origin = some .closing then counted.endCall .excess
          else { counted with
            engine := onwards { spent with badFrames := s.engine.badFrames + 1 }
            stations := tally fun c => match reason with
              | .fcs => { c with fcsErrors := c.fcsErrors + 1 }
              | .length => { c with lengthErrors := c.lengthErrors + 1 } }
        | .validFrame bytes =>
          if s.engine.origin = some .closing then counted.endCall .excess
          else if ((s.station? e.station).bind Station.bound).any (fun a => addrAt bytes 6 != a) then
            { counted with
              engine := onwards { spent with foreignFrames := s.engine.foreignFrames + 1 }
              stations := tally fun c =>
                { c with framesValid := c.framesValid + 1, foreignSource := c.foreignSource + 1 } }
          else
            let handed := State.present { bytes := bytes, station := some e.station } { counted with
              engine := spent
              stations := tally fun c =>
                { c with framesValid := c.framesValid + 1, framesAdmitted := c.framesAdmitted + 1 } }
            { handed with engine := onwards handed.engine }))

/-- A rise of TK_COL cuts the head's own sending with no jam: a marker leads to QUIETING with a RECOVERY; a head frame
returns to the front of its queue once, or is dropped. In a burst it marks the burst, and in a call it gives COLLIDED. On
a quiet line, in every phase, it begins a burst, with CARRIER_ON and then COLLISION; while an echo allowance runs it is
only remembered (R32, R36, R43, R51, R58, R85, R89, R132). That TRUNK_STATE comes before TABLE_SWAPPED where a cut frame
ends STOPPING, with the generation before the swap (log 8), and that an allowance whose end has passed counts as over
(log 11), are the model's choices. -/
def Obligations.CollisionCutsOrMarks : Prop :=
  ∀ (dt : Nat) (s : State), s.resetRun = none →
    let at_ : State := { s with now := s.now + dt, pins := { s.pins with tkCol := true } }
    let headCounted : State := { quieted true at_ with trunkCounters :=
      { s.trunkCounters with headCollisions := s.trunkCounters.headCollisions + 1 } }
    (∀ m ends, s.line.tx = some ⟨.marker m, ends⟩ → s.engine.phase = some .roundMark ∨ s.engine.phase = some .calling →
      exec (.collision dt) s = .next (quieting (recovering none 0x02 headCounted)).arbitrate)
    ∧ (∀ x ends, s.line.tx = some ⟨.frame, ends⟩ → s.queues.trunkSlot = some x →
        let q := s.queues.get x.queue
        let f := { x.frame with abortCount := some (x.frame.abortCount.getD 0 + 1) }
        let returns := x.frame.abortCount.getD 0 = 0 ∧ q.frames.length + 1 ≤ q.frameLimit
          ∧ cellSum q.frames + cellsOf f.bytes.length ≤ q.cellLimit
        let after : Queues := if returns then
            { s.queues.on x.queue (fun y => { y with
                frames := f :: y.frames
                counters := { y.counters with returned := y.counters.returned + 1 } }) with trunkSlot := none }
          else
            { s.queues.on x.queue (fun y => { y with
                counters := { y.counters with abortDrop := y.counters.abortDrop + 1 } }) with
              trunkSlot := none, free := s.queues.free + cellsOf f.bytes.length }
        let cut : State := { headCounted with queues := after }
        (s.engine.trunk = .stopping → exec (.collision dt) s = .next (stoppedFrom cut).arbitrate)
        ∧ (s.engine.trunk ≠ .stopping → s.engine.phase = some .sending →
            exec (.collision dt) s = .next (quieting (recovering none 0x02 cut)).arbitrate)
        ∧ (s.engine.trunk ≠ .stopping → s.engine.phase = some .floor →
            exec (.collision dt) s = .next ({ recovering none 0x02 cut with
              engine := { s.engine with fillSuspended := true, quietFrom := some (s.now + dt) } } : State).arbitrate))
    ∧ (∀ b, s.line.tx = none → s.line.burst = some b →
        let marked : State := { at_ with line := { s.line with burst := some { b with collision := true } } }
        exec (.collision dt) s = .next (State.arbitrate (
          if b.collision then at_
          else if s.engine.phase = some .awaiting ∨ s.engine.phase = some .receiving
              ∨ s.engine.phase = some .continuing ∨ s.engine.phase = some .closing then marked.endCall .collided
          else marked)))
    ∧ (s.line.tx = none → s.line.burst = none → (∀ x, s.line.echo = some x → x.ends ≤ s.now + dt) →
        let b : Burst := { start := s.now + dt, fromCol := true }
        exec (.collision dt) s = .next (collisionMet b (carrierMet { at_ with
          line := { s.line with echo := none, burst := some b } })).arbitrate)
    ∧ (∀ x, s.line.tx = none → s.line.burst = none → s.line.echo = some x → s.now + dt < x.ends →
        exec (.collision dt) s = .next ({ at_ with
          line := { s.line with echo := some { x with colRose := true } } } : State).arbitrate)

/-- OVERRUN is delivered once in a burst, 12,800 BT after its start: in RECEIVING it gives OVERRUN; in QUIETING,
TURNAROUND and FLOOR it blocks the trunk and blames no station; elsewhere the engine does nothing. At the end of the
echo allowance carrier still on begins a burst; CARRIER_ON is delivered, in every phase, after a transmission that ran to
its end, and not after one a collision cut. A rise of TK_COL in the allowance that is still high is taken then: in that
burst, or with carrier off as the beginning of one, with CARRIER_ON and then COLLISION. With both off nothing begins
(R26, R45, R55, R56, R83 to R85, R89, R90). -/
def Obligations.OverrunAndEchoAllowanceEnd : Prop :=
  (∀ (s : State) (b : Burst), s.resetRun = none → s.line.burst = some b → b.overrun = false →
      let marked : State := { s with
        now := max s.now (b.start + 128000)
        line := { s.line with burst := some { b with overrun := true } } }
      exec .overrun s = .next (State.arbitrate (match s.engine.phase with
        | some .receiving => marked.endCall .overrun
        | some .quieting | some .turnaround | some .floor => blockedFrom none 0x05 marked
        | some .roundMark | some .calling | some .awaiting | some .continuing | some .closing | some .sending
        | none => marked)))
  ∧ (∀ (s : State) (x : Echo) (crs col : Bool), s.resetRun = none → s.line.echo = some x → s.now ≤ x.ends →
      let past : State := { s with
        now := x.ends
        pins := { s.pins with tkCrs := crs, tkCol := col }
        line := { s.line with echo := none } }
      let burst : Burst := { start := x.ends, fromCol := !crs }
      let begun : State := { past with line := { past.line with burst := some burst } }
      let high := x.colRose = true ∧ col = true
      (crs = false → ¬ high → exec (.echoAllowanceEnd crs col) s = .next past.arbitrate)
      ∧ (crs = false → high → exec (.echoAllowanceEnd crs col) s =
          .next (collisionMet burst (carrierMet begun)).arbitrate)
      ∧ (crs = true → x.cut = true → exec (.echoAllowanceEnd crs col) s =
          .next (if high then collisionMet burst begun else begun).arbitrate)
      ∧ (crs = true → x.cut = false → exec (.echoAllowanceEnd crs col) s =
          .next (if high then collisionMet burst (carrierMet begun) else carrierMet begun).arbitrate))

/-! ### The uplink port -/

/-- A rise of LINK makes the link state UP and lets the arbiter act; a fall runs the teardown: reception and transmission
are cut, UQ and its slot are flushed, responses and uplink requests go under their counters, every session ends, the
lease ends with its notice and an unarmed PENDING reverts, and a waiting SOFT reset begins (R133, R139, R148, R149). A
report of the present state changes nothing but the pin. That the engine, the line and LED_TRUNK take their reset values
at the beginning of that SOFT reset, and the other blocks at its end, is the model's choice (log 7). -/
def Obligations.LinkEventsOpenAndTearDown : Prop :=
  ∀ (dt : Nat) (s : State), s.resetRun = none →
    let at_ := fun level : Bool => ({ s with now := s.now + dt, pins := { s.pins with link := level } } : State)
    let uplinkRequests := s.agent.input.filter fun e => e.origin == .uplink
    let flushed := s.queues.uq.frames.length + (if s.queues.uplinkSlot.isSome then 1 else 0)
    let down : State := { at_ false with
      uplink := { s.uplink with link := false, receiving := false, tx := .idle, counters := { s.uplink.counters with
        mgmtDropped := s.uplink.counters.mgmtDropped + BitVec.ofNat 32 uplinkRequests.length } }
      queues := { s.queues with
        uq := { s.queues.uq with frames := [], counters := { s.queues.uq.counters with
          flushed := s.queues.uq.counters.flushed + BitVec.ofNat 32 flushed } }
        uplinkSlot := none
        free := s.queues.free + cellSum s.queues.uq.frames + slotCells s.queues.uplinkSlot }
      agent := { s.agent with
        output := [], input := s.agent.input.filter (fun e => e.origin != .uplink), sessions := [], lease := none
        counters := { s.agent.counters with
          responsesDropped := s.agent.counters.responsesDropped + BitVec.ofNat 32 s.agent.output.length } }
      store := if s.agent.lease.isSome ∧ s.store.armed = false then { s.store with pending := s.store.active }
        else s.store
      notices := match s.agent.lease with
        | none => s.notices
        | some l => s.notices.raise s.engine.round .leaseEnded none
            ⟨0x02, 0x00, l.tag.extractLsb' 8 8, l.tag.extractLsb' 0 8⟩ }
    (s.uplink.link = false → exec (.linkUp dt) s =
      .next ({ at_ true with uplink := { s.uplink with link := true } } : State).arbitrate)
    ∧ (s.uplink.link = true → exec (.linkUp dt) s = .next (at_ true).arbitrate)
    ∧ (s.uplink.link = false → exec (.linkDown dt) s = .next (at_ false))
    ∧ (s.uplink.link = true → s.agent.softReset = false → exec (.linkDown dt) s = .next down)
    ∧ (s.uplink.link = true → s.agent.softReset = true → exec (.linkDown dt) s = .next { down with
        resetRun := some { kind := .soft, began := s.now + dt }
        engine := {}, line := {}, led := {}
        agent := { down.agent with softReset := false } })

/-- A frame begins only with the link UP, at the first start delimiter that follows a byte of preamble; a stretch
without one begins none. The bytes come as groups of four bits, the low four bits first, and a final half byte of the
frame is discarded. Its completion meets the length check, then the FCS check, then goes to the agent's input list if it
is a management frame addressed to the part, or is presented to the Admission Unit (R138, R140 to R142). That the bytes
before the delimiter are counted from the rise of UL_RXDV is the model's choice (log 23). -/
def Obligations.ReceptionChecksInOrder : Prop :=
  ∀ (dt : Nat) (s : State) (groups half : List (BitVec 4)) (bytes : List Byte) (rxError : Bool), s.resetRun = none →
    half.length < 2 →
    let wire := fun l : List Byte => l.flatMap fun x => [x.extractLsb' 0 4, x.extractLsb' 4 4]
    let delimited := fun l : List Byte => ∃ i : Nat, l[i]? = some 0x55 ∧ l[i + 1]? = some 0xD5
    let opens := ∃ l, groups = wire (l ++ [0x55, 0xD5]) ∧ ¬ delimited (l ++ [0x55])
    let begun := exec (.receiverBeginsFrame (dt, groups)) s
    let completed := exec (.receiveCompletion dt (wire bytes ++ half) rxError) s
    let counts := fun (c : PortCounters) (input : List InputEntry) => ({ s with
      now := s.now + dt
      uplink := { s.uplink with receiving := false, counters := c }
      agent := { s.agent with input := input } } : State)
    let c := s.uplink.counters
    let good := { c with rxGood := c.rxGood + 1 }
    let management := frameType bytes = 0xA7D1
      ∧ (frameDst bytes = s.identity.factory ∨ frameDst bytes = 0x0B3A6C000001)
    (s.uplink.link = true → opens → begun =
      .next ({ s with now := s.now + dt, uplink := { s.uplink with receiving := true } } : State).arbitrate)
    ∧ (s.uplink.link = true → ¬ opens → begun = .next ({ s with now := s.now + dt } : State).arbitrate)
    ∧ (s.uplink.link = false → begun = .next { s with now := s.now + dt })
    ∧ (s.uplink.receiving = false → completed =
        .next ({ s with now := s.now + dt } : State).arbitrate)
    ∧ (s.uplink.receiving = true → completed = .next (State.arbitrate (
        if bytes.length < 64 ∨ 1522 < bytes.length then
          counts { c with lengthErrors := c.lengthErrors + 1 } s.agent.input
        else if rxError = true ∨ fcsCorrect bytes = false then
          counts { c with fcsErrors := c.fcsErrors + 1 } s.agent.input
        else if management then
          if 508 < bytes.length ∨ 4 ≤ s.agent.input.length then
            counts { good with mgmtDropped := c.mgmtDropped + 1 } s.agent.input
          else counts { good with mgmtTaken := c.mgmtTaken + 1 } (s.agent.input ++ [⟨.uplink, bytes⟩])
        else State.present { bytes := bytes, station := none } (counts good s.agent.input))))

/-- The end of an uplink transmission told to its source: a response leaves the output list, and the answer to a
RESET_DEVICE begins the SOFT reset that waits; a notice's send is recorded on the record that holds its number, with the
retry 2 s later; a UQ frame leaves its slot and its cells return. Then the gap of 96 bit times. Until then UL_TXD
carries for one clock period each the groups of four bits of seven bytes of preamble, the start delimiter and the source's
frame, the low four bits of each byte first (R131, R138, R143, R145, R146, R176, R188). That the engine, the line and
LED_TRUNK take their reset values at the beginning of that SOFT reset, and the other blocks at its end (log 7), and that
UL_TXD carries nothing outside the frame (log 24), are the model's choices. -/
def Obligations.TransmissionEndTellsItsSource : Prop :=
  ∀ (s : State) (source : UplinkSource) (ends : Nat), s.resetRun = none → s.uplink.tx = .sending source ends →
    let now := max s.now ends
    let c := s.uplink.counters
    let gapped := fun (c : PortCounters) => { s.uplink with tx := UplinkTx.gap (now + 96), counters := c }
    let ended := exec .uplinkTransmissionEnd s
    let carries := fun frame : List Byte =>
      let wire : List Byte := [0x55, 0x55, 0x55, 0x55, 0x55, 0x55, 0x55, 0xD5] ++ frame
      let length := (frame.length + 8) * 8
      (∀ i moment : Nat, i < 2 * wire.length → ends + 4 * i ≤ moment + length → moment + length < ends + 4 * (i + 1) →
          s.ulTxd moment = some ((wire.getD (i / 2) 0).extractLsb' (4 * (i % 2)) 4))
      ∧ (∀ moment : Nat, moment + length < ends ∨ ends ≤ moment → s.ulTxd moment = none)
    (s.ulTxen = true)
    ∧ (∀ r rest, source = .response → s.agent.output = r :: rest → carries r.bytes)
    ∧ (∀ number frame, source = .notice number frame → carries frame)
    ∧ (∀ f, source = .forwarded → s.queues.uplinkSlot = some f → carries f.bytes)
    ∧ (∀ r rest, source = .response → s.agent.output = r :: rest → ¬ (r.answersReset = true ∧ s.agent.softReset = true) →
      ended = .next { s with
        now := now, agent := { s.agent with output := rest }
        uplink := gapped { c with txResponses := c.txResponses + 1 } })
    ∧ (∀ r rest, source = .response → s.agent.output = r :: rest → r.answersReset = true → s.agent.softReset = true →
      ended = .next { s with
        now := now, agent := { s.agent with output := rest, softReset := false }
        uplink := { s.uplink with tx := .idle, receiving := false, counters :=
          { c with txResponses := c.txResponses + 1 } }
        resetRun := some { kind := .soft, began := now }
        engine := {}, line := {}, led := {} })
    ∧ (∀ number frame, source = .notice number frame →
      let held := s.notices.records.any fun n => n.number == number
      ended = .next { s with
        now := now
        notices := if held then { s.notices with
            records := s.notices.records.map fun n => if n.number = number then
              { n with sends := min 65535 (n.sends + 1), retry := some (now + 200000000) } else n
            counters := { s.notices.counters with sendsRecorded := s.notices.counters.sendsRecorded + 1 } }
          else s.notices
        uplink := gapped { c with txNotices := c.txNotices + 1 } })
    ∧ (∀ f, source = .forwarded → s.queues.uplinkSlot = some f →
      ended = .next { s with
        now := now
        queues := { s.queues with
          uq := { s.queues.uq with counters := { s.queues.uq.counters with
            transmitted := s.queues.uq.counters.transmitted + 1 } }
          uplinkSlot := none
          free := s.queues.free + cellsOf f.bytes.length }
        uplink := gapped { c with txForwarded := c.txForwarded + 1 } })

/-- The end of the gap frees the transmitter, and the arbiter takes the first response, else the oldest due notice as a
frame to the lease holder or to the management group, else the front of UQ, else nothing; with the link DOWN it takes
nothing (R143 to R145, R187). -/
def Obligations.ArbiterTakesInOrder : Prop :=
  ∀ (s : State) (ends : Nat), s.resetRun = none → s.uplink.tx = .gap ends →
    let now := max s.now ends
    let sends := fun (source : UplinkSource) (length : Nat) => ({ s with
      now := now, uplink := { s.uplink with tx := .sending source (now + (length + 8) * 8) } } : State)
    let idle : State := { s with now := now, uplink := { s.uplink with tx := .idle } }
    let due := s.notices.records.find? fun n => n.retry.isNone
    let address := match s.agent.lease with | some l => l.address | none => 0x0B3A6C000001
    let noticeFrame := fun n : Notice => buildFrame address s.identity.factory 3 0 n.number n.kind.code 0
      (bytes2 n.number.toNat ++ [n.kind.code, byteOf (n.station.getD 0), n.detail.b0, n.detail.b1, n.detail.b2,
        n.detail.b3] ++ bytes2 n.occurrences ++ [n.firstRound, n.lastRound] ++ bytes2 n.sends ++ bytes2 s.notices.lost)
    exec .uplinkGapEnd s = .next (
      if s.uplink.link = false then idle
      else match s.agent.output, due, s.queues.uplinkSlot, s.queues.uq.frames with
        | r :: _, _, _, _ => sends .response r.bytes.length
        | [], some n, _, _ => sends (.notice n.number (noticeFrame n)) (noticeFrame n).length
        | [], none, none, f :: rest => { sends .forwarded f.bytes.length with
            queues := { s.queues with uq := { s.queues.uq with frames := rest }, uplinkSlot := some f } }
        | [], none, _, _ => idle)

/-! ### Timers of the agent, the notices, the seconds and the indicator -/

/-- The lease ends at its expiry with its notice, and an unarmed PENDING reverts; a session that does not hold the lease
goes after 300 s without a take (R20, R164, R172). -/
def Obligations.LeaseAndSessionsEnd : Prop :=
  ∀ (s : State) (address : Addr) (tag : BitVec 16), s.resetRun = none →
    (∀ l, s.agent.lease = some l → exec .leaseExpiry s = .next ({ s with
      now := max s.now l.expiry
      agent := { s.agent with lease := none }
      store := if s.store.armed then s.store else { s.store with pending := s.store.active }
      notices := s.notices.raise s.engine.round .leaseEnded none
        ⟨0x01, 0x00, l.tag.extractLsb' 8 8, l.tag.extractLsb' 0 8⟩ } : State).arbitrate)
    ∧ (∀ x, s.agent.sessions.find? (fun y => y.address == address && y.tag == tag) = some x →
        (∀ l, s.agent.lease = some l → ¬ (l.address = address ∧ l.tag = tag)) →
        exec (.sessionIdleEnd address tag) s = .next ({ s with
          now := max s.now (x.lastTake + 30000000000)
          agent := { s.agent with sessions :=
            s.agent.sessions.filter fun y => !(y.address == address && y.tag == tag) } } : State).arbitrate)

/-- A notice whose retry time is reached becomes due again and nothing else in the list changes; each second counted
advances the seconds since reset by 1 and nothing else; while LED_TRUNK flashes, each stretch of 500 ms in STARTING and
STOPPING, and of 100 ms in BLOCKED, ends with the indicator toggled and the next stretch begun (R189, R201, R213). That
the arbiter acts at the tick and at the flash too is the model's choice (log 17). -/
def Obligations.RetrySecondAndFlash : Prop :=
  (∀ (s : State) (number : BitVec 16) (n : Notice) (retry : Nat), s.resetRun = none →
      s.notices.records.find? (fun x => x.number == number) = some n → n.retry = some retry →
      exec (.retryTime number) s = .next ({ s with
        now := max s.now retry
        notices := { s.notices with
          records := s.notices.records.map fun x => if x.number = number then { x with retry := none } else x } }
        : State).arbitrate)
  ∧ (∀ s : State, s.resetRun = none →
      exec .secondsSinceResetTick s = .next ({ s with
        now := max s.now (s.identity.secondStart + 100000000)
        identity := { s.identity with
          seconds := s.identity.seconds + 1, secondStart := s.identity.secondStart + 100000000 } } : State).arbitrate)
  ∧ (∀ (s : State) (ends length : Nat), s.resetRun = none → s.led.stretch = some ends →
      ((s.engine.trunk = .starting ∨ s.engine.trunk = .stopping) ∧ length = 50000000)
        ∨ (s.engine.trunk = .blocked ∧ length = 10000000) →
      exec .ledTrunkFlash s = .next ({ s with
        now := max s.now ends
        led := { lit := !s.led.lit, stretch := some (max s.now ends + length) } } : State).arbitrate)

/-! ### Resets -/

/-- The beginning of a reset: power and RSTN begin one where none runs, cutting every transmission and reception, the
call and the waiting SOFT reset, with the link state DOWN; where one runs it becomes POWER, or a SOFT one becomes PIN,
and it is one reset still. The settling and the deassertion are remembered for its end (R204, R205). What the blocks hold
while a reset is in progress, the engine, the line and LED_TRUNK their reset values from its beginning and the others
theirs from its end (log 7), and that power applied in a POWER reset starts the settling anew (log 18), are the model's
choices. -/
def Obligations.ResetsBeginAndOverlap : Prop :=
  ∀ (dt : Nat) (s : State),
    let now := s.now + dt
    let begun := fun k : ResetKind => ({ s with
      now := now
      resetRun := some { kind := k, began := now, settled := none, released := none }
      engine := {}, line := {}, led := {}
      uplink := { s.uplink with link := false, receiving := false, tx := .idle }
      agent := { s.agent with softReset := false } } : State)
    let low : Uplink := { s.uplink with link := false }
    (s.resetRun = none → exec (.powerApplied dt) s = .next (begun .power)
      ∧ exec (.rstnAsserted dt) s = .next { begun .pin with pins := { s.pins with rstn := false } })
    ∧ (∀ r, s.resetRun = some r →
        exec (.powerApplied dt) s = .next { s with
          now := now, uplink := low, resetRun := some { r with kind := .power, settled := none } }
        ∧ exec (.rstnAsserted dt) s = .next { s with
          now := now, uplink := low, pins := { s.pins with rstn := false }
          resetRun := some { r with kind := if r.kind = .power then .power else .pin, released := none } }
        ∧ exec (.supplySettled dt) s = .next { s with
          now := now
          resetRun := some (if r.kind = .power ∧ r.settled = none then { r with settled := some now } else r) }
        ∧ exec (.rstnDeasserted dt) s = .next { s with
          now := now, pins := { s.pins with rstn := true }
          resetRun := some (if s.pins.rstn = false then { r with released := some now } else r) })

/-- A reset ends 20 µs after a SOFT one began, 20 µs after RSTN was deasserted, or 10 ms after the supply settled and no
earlier than a PIN reset would; not while RSTN is low. Every block is then as after reset, the cause is recorded, and the
list holds RESTARTED alone. POWER and PIN leave the link DOWN and SOFT as it was (R193, R204 to R206). Stated with no
carrier and with LINK at the link state, so that no event follows; that none follows also where LINK has changed and
changed back within a SOFT reset is the model's choice (log 26). -/
def Obligations.ResetEndLeavesTheResetState : Prop :=
  ∀ (s : State) (r : ResetRun) (link : Bool), s.resetRun = some r →
    link = (if r.kind = .soft then s.uplink.link else false) →
    let ends : Option Nat := match r.kind with
      | .soft => some (r.began + 2000)
      | .pin => if s.pins.rstn then r.released.map fun t => t + 2000 else none
      | .power => if s.pins.rstn then
          r.settled.map fun t => max (t + 1000000) ((r.released.map fun x => x + 2000).getD 0) else none
    (ends = none → exec (.resetEnd false link) s = .next s)
    ∧ (∀ t, ends = some t → exec (.resetEnd false link) s = .next ({ State.reset with
        pending := s.pending
        now := max s.now t
        pins := { s.pins with link := link, tkCrs := false }
        uplink := { link := link }
        notices := { records := [{ number := 0, kind := .restarted, station := none
                                   detail := ⟨match r.kind with | .power => 0x01 | .pin => 0x02 | .soft => 0x03,
                                     0, 0, 0⟩
                                   occurrences := 1, firstRound := 0, lastRound := 0, sends := 0, retry := none }],
                     lost := 0, next := 1 }
        identity := { factory := s.identity.factory, cause := r.kind, seconds := 0, secondStart := max s.now t } }
        : State).arbitrate)

/-- The state after reset: STOPPED with empty banks of reset headers, generation 0 and nothing armed, no station, rules
disabled with both defaults FORWARD, 512 cells free with the reset limits, no session and no lease, every counter 0, the
list holding RESTARTED alone, and every law of the part met (R3, R5, R23, R60, R99, R118, R123, R177, R193). That the link
state is DOWN in it, as after a POWER reset, is the model's choice of the reset it follows (log 5). -/
def Obligations.ResetStateMeetsTheLaws : Prop :=
  let s := State.reset
  s.engine.trunk = .stopped ∧ s.engine.phase = none ∧ s.engine.round = 0 ∧ s.engine.index = none
  ∧ s.store.active = s.store.pending ∧ s.store.active.entries = [] ∧ s.store.generation = 0 ∧ s.store.armed = false
  ∧ (s.store.active.header.answerWindow, s.store.active.header.continueWindow, s.store.active.header.missLimit,
      s.store.active.header.strikeLimit, s.store.active.header.probePeriod, s.store.active.header.floor)
      = (40, 112, 3, 3, 16, 0)
  ∧ s.stations = [] ∧ (∀ r ∈ s.admission.rules, r.enabled = false ∧ r.hits = 0)
  ∧ s.admission.defaultUp = .forward ∧ s.admission.defaultDown = .forward
  ∧ s.queues.free = 512 ∧ (s.queues.dx.frameLimit, s.queues.dx.cellLimit) = (32, 96)
  ∧ (s.queues.dn.frameLimit, s.queues.dn.cellLimit) = (128, 256)
  ∧ (s.queues.uq.frameLimit, s.queues.uq.cellLimit) = (128, 256)
  ∧ s.agent = {} ∧ s.trunkCounters = {} ∧ s.uplink = {} ∧ s.notices.next = 1
  ∧ s.notices.records.map (fun n => (n.kind, n.number)) = [(.restarted, 0)]
  ∧ CellLaw s ∧ QueueLaw s ∧ PlacesLaw s ∧ StoreLaw s ∧ PhaseLaw s ∧ EnrolmentLaw s ∧ SessionLaw s ∧ NoticeLaw s

/-! ### The laws every step keeps -/

/-- A law of the part: the free cells and the cells of every held frame are 512 in all (R118). -/
def Obligations.StepKeepsTheCells : Prop :=
  ∀ s t : State, CellLaw s → step s = .next t → CellLaw t

/-- A law of the part: no queue holds more than its limits, UQ is empty while the link is DOWN, and no list of the agent
and no rule table outgrows its places (R99, R123, R124, R126, R155, R156). -/
def Obligations.StepKeepsTheLimits : Prop :=
  ∀ s t : State, QueueLaw s ∧ PlacesLaw s → step s = .next t → QueueLaw t ∧ PlacesLaw t

/-- Laws of the part: whenever the trunk is not STOPPED ACTIVE holds 1 to 64 entries; while no lease is held PENDING is
armed or equal to ACTIVE; a phase is present only in RUNNING and STOPPING (R20, R24, R25). -/
def Obligations.StepKeepsTheTables : Prop :=
  ∀ s t : State, StoreLaw s ∧ PhaseLaw s → step s = .next t → StoreLaw t ∧ PhaseLaw t

/-- A law of the part: every station that ACTIVE names, or PENDING while it is armed, has a record (R11). -/
def Obligations.StepKeepsEnrolment : Prop :=
  ∀ s t : State, EnrolmentLaw s → step s = .next t → EnrolmentLaw t

/-- A law of the part: at most four sessions with distinct keys, and the lease holder's record among them (R160,
R169). -/
def Obligations.StepKeepsTheHoldersSession : Prop :=
  ∀ s t : State, SessionLaw s → step s = .next t → SessionLaw t

/-- A law of the part: at most 16 notices in increasing number order modulo 65536, no two of one kind and station
(R185). -/
def Obligations.StepKeepsTheNoticeOrder : Prop :=
  ∀ s t : State, NoticeLaw s → step s = .next t → NoticeLaw t

/-- A law of the part: every ROUND_START that a step begins carries the round number and the generation of ACTIVE (R31). -/
def Obligations.RoundStartCarriesTheGeneration : Prop :=
  ∀ (s t : State) (m : Marker) (ends : Nat), step s = .next t → t.line.tx = some ⟨.marker m, ends⟩ →
    t.line.tx ≠ s.line.tx → m.type = 0x1C → m.a = t.engine.round ∧ m.b = t.store.generation

/-- A law of the part: every CALL that a step begins names the station of the current entry, with its credit, which is
not MUTED, and is LAPSED only in a probe round that had not reached the station before (R33, R34, R36). -/
def Obligations.CallNamesACallableStation : Prop :=
  ∀ (s t : State) (m : Marker) (ends : Nat), step s = .next t → t.line.tx = some ⟨.marker m, ends⟩ →
    t.line.tx ≠ s.line.tx → m.type = 0x2C →
    ∃ i e r, t.engine.index = some i ∧ t.store.active.entries[i]? = some e ∧ t.station? e.station = some r
      ∧ m.a = byteOf e.station ∧ m.b = byteOf e.credit ∧ t.engine.credit = e.credit
      ∧ r.state ≠ .muted
      ∧ (r.state = .lapsed → t.engine.round.toNat % t.store.active.header.probePeriod = 0
          ∧ e.station ∉ s.engine.firstEntry)
end

