-- ==== Sys2Proof/Laws/State.lean ====
section
/-! SUPPORT. What each update of the state leaves in each field. -/

namespace Sys2Proof.Machine

@[simp] theorem pass_pending (dt : Nat) (s : State) : (s.pass dt).pending = s.pending := rfl
@[simp] theorem pass_now (dt : Nat) (s : State) : (s.pass dt).now = s.now + dt := rfl
@[simp] theorem pass_resetRun (dt : Nat) (s : State) : (s.pass dt).resetRun = s.resetRun := rfl
@[simp] theorem pass_pins (dt : Nat) (s : State) : (s.pass dt).pins = s.pins := rfl
@[simp] theorem pass_store (dt : Nat) (s : State) : (s.pass dt).store = s.store := rfl
@[simp] theorem pass_engine (dt : Nat) (s : State) : (s.pass dt).engine = s.engine := rfl
@[simp] theorem pass_line (dt : Nat) (s : State) : (s.pass dt).line = s.line := rfl
@[simp] theorem pass_trunkCounters (dt : Nat) (s : State) : (s.pass dt).trunkCounters = s.trunkCounters := rfl
@[simp] theorem pass_stations (dt : Nat) (s : State) : (s.pass dt).stations = s.stations := rfl
@[simp] theorem pass_admission (dt : Nat) (s : State) : (s.pass dt).admission = s.admission := rfl
@[simp] theorem pass_queues (dt : Nat) (s : State) : (s.pass dt).queues = s.queues := rfl
@[simp] theorem pass_uplink (dt : Nat) (s : State) : (s.pass dt).uplink = s.uplink := rfl
@[simp] theorem pass_agent (dt : Nat) (s : State) : (s.pass dt).agent = s.agent := rfl
@[simp] theorem pass_notices (dt : Nat) (s : State) : (s.pass dt).notices = s.notices := rfl
@[simp] theorem pass_stamps (dt : Nat) (s : State) : (s.pass dt).stamps = s.stamps := rfl
@[simp] theorem pass_identity (dt : Nat) (s : State) : (s.pass dt).identity = s.identity := rfl
@[simp] theorem pass_led (dt : Nat) (s : State) : (s.pass dt).led = s.led := rfl
@[simp] theorem reach_pending (t : Nat) (s : State) : (s.reach t).pending = s.pending := rfl
@[simp] theorem reach_now (t : Nat) (s : State) : (s.reach t).now = max s.now t := rfl
@[simp] theorem reach_resetRun (t : Nat) (s : State) : (s.reach t).resetRun = s.resetRun := rfl
@[simp] theorem reach_pins (t : Nat) (s : State) : (s.reach t).pins = s.pins := rfl
@[simp] theorem reach_store (t : Nat) (s : State) : (s.reach t).store = s.store := rfl
@[simp] theorem reach_engine (t : Nat) (s : State) : (s.reach t).engine = s.engine := rfl
@[simp] theorem reach_line (t : Nat) (s : State) : (s.reach t).line = s.line := rfl
@[simp] theorem reach_trunkCounters (t : Nat) (s : State) : (s.reach t).trunkCounters = s.trunkCounters := rfl
@[simp] theorem reach_stations (t : Nat) (s : State) : (s.reach t).stations = s.stations := rfl
@[simp] theorem reach_admission (t : Nat) (s : State) : (s.reach t).admission = s.admission := rfl
@[simp] theorem reach_queues (t : Nat) (s : State) : (s.reach t).queues = s.queues := rfl
@[simp] theorem reach_uplink (t : Nat) (s : State) : (s.reach t).uplink = s.uplink := rfl
@[simp] theorem reach_agent (t : Nat) (s : State) : (s.reach t).agent = s.agent := rfl
@[simp] theorem reach_notices (t : Nat) (s : State) : (s.reach t).notices = s.notices := rfl
@[simp] theorem reach_stamps (t : Nat) (s : State) : (s.reach t).stamps = s.stamps := rfl
@[simp] theorem reach_identity (t : Nat) (s : State) : (s.reach t).identity = s.identity := rfl
@[simp] theorem reach_led (t : Nat) (s : State) : (s.reach t).led = s.led := rfl

@[simp] theorem onStore_pending (f : Store → Store) (s : State) : (s.onStore f).pending = s.pending := rfl
@[simp] theorem onStore_now (f : Store → Store) (s : State) : (s.onStore f).now = s.now := rfl
@[simp] theorem onStore_resetRun (f : Store → Store) (s : State) : (s.onStore f).resetRun = s.resetRun := rfl
@[simp] theorem onStore_pins (f : Store → Store) (s : State) : (s.onStore f).pins = s.pins := rfl
@[simp] theorem onStore_store (f : Store → Store) (s : State) : (s.onStore f).store = f s.store := rfl
@[simp] theorem onStore_engine (f : Store → Store) (s : State) : (s.onStore f).engine = s.engine := rfl
@[simp] theorem onStore_line (f : Store → Store) (s : State) : (s.onStore f).line = s.line := rfl
@[simp] theorem onStore_trunkCounters (f : Store → Store) (s : State) : (s.onStore f).trunkCounters = s.trunkCounters := rfl
@[simp] theorem onStore_stations (f : Store → Store) (s : State) : (s.onStore f).stations = s.stations := rfl
@[simp] theorem onStore_admission (f : Store → Store) (s : State) : (s.onStore f).admission = s.admission := rfl
@[simp] theorem onStore_queues (f : Store → Store) (s : State) : (s.onStore f).queues = s.queues := rfl
@[simp] theorem onStore_uplink (f : Store → Store) (s : State) : (s.onStore f).uplink = s.uplink := rfl
@[simp] theorem onStore_agent (f : Store → Store) (s : State) : (s.onStore f).agent = s.agent := rfl
@[simp] theorem onStore_notices (f : Store → Store) (s : State) : (s.onStore f).notices = s.notices := rfl
@[simp] theorem onStore_stamps (f : Store → Store) (s : State) : (s.onStore f).stamps = s.stamps := rfl
@[simp] theorem onStore_identity (f : Store → Store) (s : State) : (s.onStore f).identity = s.identity := rfl
@[simp] theorem onStore_led (f : Store → Store) (s : State) : (s.onStore f).led = s.led := rfl

@[simp] theorem onEngine_pending (f : Engine → Engine) (s : State) : (s.onEngine f).pending = s.pending := rfl
@[simp] theorem onEngine_now (f : Engine → Engine) (s : State) : (s.onEngine f).now = s.now := rfl
@[simp] theorem onEngine_resetRun (f : Engine → Engine) (s : State) : (s.onEngine f).resetRun = s.resetRun := rfl
@[simp] theorem onEngine_pins (f : Engine → Engine) (s : State) : (s.onEngine f).pins = s.pins := rfl
@[simp] theorem onEngine_store (f : Engine → Engine) (s : State) : (s.onEngine f).store = s.store := rfl
@[simp] theorem onEngine_engine (f : Engine → Engine) (s : State) : (s.onEngine f).engine = f s.engine := rfl
@[simp] theorem onEngine_line (f : Engine → Engine) (s : State) : (s.onEngine f).line = s.line := rfl
@[simp] theorem onEngine_trunkCounters (f : Engine → Engine) (s : State) : (s.onEngine f).trunkCounters = s.trunkCounters := rfl
@[simp] theorem onEngine_stations (f : Engine → Engine) (s : State) : (s.onEngine f).stations = s.stations := rfl
@[simp] theorem onEngine_admission (f : Engine → Engine) (s : State) : (s.onEngine f).admission = s.admission := rfl
@[simp] theorem onEngine_queues (f : Engine → Engine) (s : State) : (s.onEngine f).queues = s.queues := rfl
@[simp] theorem onEngine_uplink (f : Engine → Engine) (s : State) : (s.onEngine f).uplink = s.uplink := rfl
@[simp] theorem onEngine_agent (f : Engine → Engine) (s : State) : (s.onEngine f).agent = s.agent := rfl
@[simp] theorem onEngine_notices (f : Engine → Engine) (s : State) : (s.onEngine f).notices = s.notices := rfl
@[simp] theorem onEngine_stamps (f : Engine → Engine) (s : State) : (s.onEngine f).stamps = s.stamps := rfl
@[simp] theorem onEngine_identity (f : Engine → Engine) (s : State) : (s.onEngine f).identity = s.identity := rfl
@[simp] theorem onEngine_led (f : Engine → Engine) (s : State) : (s.onEngine f).led = s.led := rfl

@[simp] theorem onLine_pending (f : Line → Line) (s : State) : (s.onLine f).pending = s.pending := rfl
@[simp] theorem onLine_now (f : Line → Line) (s : State) : (s.onLine f).now = s.now := rfl
@[simp] theorem onLine_resetRun (f : Line → Line) (s : State) : (s.onLine f).resetRun = s.resetRun := rfl
@[simp] theorem onLine_pins (f : Line → Line) (s : State) : (s.onLine f).pins = s.pins := rfl
@[simp] theorem onLine_store (f : Line → Line) (s : State) : (s.onLine f).store = s.store := rfl
@[simp] theorem onLine_engine (f : Line → Line) (s : State) : (s.onLine f).engine = s.engine := rfl
@[simp] theorem onLine_line (f : Line → Line) (s : State) : (s.onLine f).line = f s.line := rfl
@[simp] theorem onLine_trunkCounters (f : Line → Line) (s : State) : (s.onLine f).trunkCounters = s.trunkCounters := rfl
@[simp] theorem onLine_stations (f : Line → Line) (s : State) : (s.onLine f).stations = s.stations := rfl
@[simp] theorem onLine_admission (f : Line → Line) (s : State) : (s.onLine f).admission = s.admission := rfl
@[simp] theorem onLine_queues (f : Line → Line) (s : State) : (s.onLine f).queues = s.queues := rfl
@[simp] theorem onLine_uplink (f : Line → Line) (s : State) : (s.onLine f).uplink = s.uplink := rfl
@[simp] theorem onLine_agent (f : Line → Line) (s : State) : (s.onLine f).agent = s.agent := rfl
@[simp] theorem onLine_notices (f : Line → Line) (s : State) : (s.onLine f).notices = s.notices := rfl
@[simp] theorem onLine_stamps (f : Line → Line) (s : State) : (s.onLine f).stamps = s.stamps := rfl
@[simp] theorem onLine_identity (f : Line → Line) (s : State) : (s.onLine f).identity = s.identity := rfl
@[simp] theorem onLine_led (f : Line → Line) (s : State) : (s.onLine f).led = s.led := rfl

@[simp] theorem onTrunkCounters_pending (f : TrunkCounters → TrunkCounters) (s : State) : (s.onTrunkCounters f).pending = s.pending := rfl
@[simp] theorem onTrunkCounters_now (f : TrunkCounters → TrunkCounters) (s : State) : (s.onTrunkCounters f).now = s.now := rfl
@[simp] theorem onTrunkCounters_resetRun (f : TrunkCounters → TrunkCounters) (s : State) : (s.onTrunkCounters f).resetRun = s.resetRun := rfl
@[simp] theorem onTrunkCounters_pins (f : TrunkCounters → TrunkCounters) (s : State) : (s.onTrunkCounters f).pins = s.pins := rfl
@[simp] theorem onTrunkCounters_store (f : TrunkCounters → TrunkCounters) (s : State) : (s.onTrunkCounters f).store = s.store := rfl
@[simp] theorem onTrunkCounters_engine (f : TrunkCounters → TrunkCounters) (s : State) : (s.onTrunkCounters f).engine = s.engine := rfl
@[simp] theorem onTrunkCounters_line (f : TrunkCounters → TrunkCounters) (s : State) : (s.onTrunkCounters f).line = s.line := rfl
@[simp] theorem onTrunkCounters_trunkCounters (f : TrunkCounters → TrunkCounters) (s : State) : (s.onTrunkCounters f).trunkCounters = f s.trunkCounters := rfl
@[simp] theorem onTrunkCounters_stations (f : TrunkCounters → TrunkCounters) (s : State) : (s.onTrunkCounters f).stations = s.stations := rfl
@[simp] theorem onTrunkCounters_admission (f : TrunkCounters → TrunkCounters) (s : State) : (s.onTrunkCounters f).admission = s.admission := rfl
@[simp] theorem onTrunkCounters_queues (f : TrunkCounters → TrunkCounters) (s : State) : (s.onTrunkCounters f).queues = s.queues := rfl
@[simp] theorem onTrunkCounters_uplink (f : TrunkCounters → TrunkCounters) (s : State) : (s.onTrunkCounters f).uplink = s.uplink := rfl
@[simp] theorem onTrunkCounters_agent (f : TrunkCounters → TrunkCounters) (s : State) : (s.onTrunkCounters f).agent = s.agent := rfl
@[simp] theorem onTrunkCounters_notices (f : TrunkCounters → TrunkCounters) (s : State) : (s.onTrunkCounters f).notices = s.notices := rfl
@[simp] theorem onTrunkCounters_stamps (f : TrunkCounters → TrunkCounters) (s : State) : (s.onTrunkCounters f).stamps = s.stamps := rfl
@[simp] theorem onTrunkCounters_identity (f : TrunkCounters → TrunkCounters) (s : State) : (s.onTrunkCounters f).identity = s.identity := rfl
@[simp] theorem onTrunkCounters_led (f : TrunkCounters → TrunkCounters) (s : State) : (s.onTrunkCounters f).led = s.led := rfl

@[simp] theorem onStations_pending (f : List Station → List Station) (s : State) : (s.onStations f).pending = s.pending := rfl
@[simp] theorem onStations_now (f : List Station → List Station) (s : State) : (s.onStations f).now = s.now := rfl
@[simp] theorem onStations_resetRun (f : List Station → List Station) (s : State) : (s.onStations f).resetRun = s.resetRun := rfl
@[simp] theorem onStations_pins (f : List Station → List Station) (s : State) : (s.onStations f).pins = s.pins := rfl
@[simp] theorem onStations_store (f : List Station → List Station) (s : State) : (s.onStations f).store = s.store := rfl
@[simp] theorem onStations_engine (f : List Station → List Station) (s : State) : (s.onStations f).engine = s.engine := rfl
@[simp] theorem onStations_line (f : List Station → List Station) (s : State) : (s.onStations f).line = s.line := rfl
@[simp] theorem onStations_trunkCounters (f : List Station → List Station) (s : State) : (s.onStations f).trunkCounters = s.trunkCounters := rfl
@[simp] theorem onStations_stations (f : List Station → List Station) (s : State) : (s.onStations f).stations = f s.stations := rfl
@[simp] theorem onStations_admission (f : List Station → List Station) (s : State) : (s.onStations f).admission = s.admission := rfl
@[simp] theorem onStations_queues (f : List Station → List Station) (s : State) : (s.onStations f).queues = s.queues := rfl
@[simp] theorem onStations_uplink (f : List Station → List Station) (s : State) : (s.onStations f).uplink = s.uplink := rfl
@[simp] theorem onStations_agent (f : List Station → List Station) (s : State) : (s.onStations f).agent = s.agent := rfl
@[simp] theorem onStations_notices (f : List Station → List Station) (s : State) : (s.onStations f).notices = s.notices := rfl
@[simp] theorem onStations_stamps (f : List Station → List Station) (s : State) : (s.onStations f).stamps = s.stamps := rfl
@[simp] theorem onStations_identity (f : List Station → List Station) (s : State) : (s.onStations f).identity = s.identity := rfl
@[simp] theorem onStations_led (f : List Station → List Station) (s : State) : (s.onStations f).led = s.led := rfl

@[simp] theorem onAdmission_pending (f : Admission → Admission) (s : State) : (s.onAdmission f).pending = s.pending := rfl
@[simp] theorem onAdmission_now (f : Admission → Admission) (s : State) : (s.onAdmission f).now = s.now := rfl
@[simp] theorem onAdmission_resetRun (f : Admission → Admission) (s : State) : (s.onAdmission f).resetRun = s.resetRun := rfl
@[simp] theorem onAdmission_pins (f : Admission → Admission) (s : State) : (s.onAdmission f).pins = s.pins := rfl
@[simp] theorem onAdmission_store (f : Admission → Admission) (s : State) : (s.onAdmission f).store = s.store := rfl
@[simp] theorem onAdmission_engine (f : Admission → Admission) (s : State) : (s.onAdmission f).engine = s.engine := rfl
@[simp] theorem onAdmission_line (f : Admission → Admission) (s : State) : (s.onAdmission f).line = s.line := rfl
@[simp] theorem onAdmission_trunkCounters (f : Admission → Admission) (s : State) : (s.onAdmission f).trunkCounters = s.trunkCounters := rfl
@[simp] theorem onAdmission_stations (f : Admission → Admission) (s : State) : (s.onAdmission f).stations = s.stations := rfl
@[simp] theorem onAdmission_admission (f : Admission → Admission) (s : State) : (s.onAdmission f).admission = f s.admission := rfl
@[simp] theorem onAdmission_queues (f : Admission → Admission) (s : State) : (s.onAdmission f).queues = s.queues := rfl
@[simp] theorem onAdmission_uplink (f : Admission → Admission) (s : State) : (s.onAdmission f).uplink = s.uplink := rfl
@[simp] theorem onAdmission_agent (f : Admission → Admission) (s : State) : (s.onAdmission f).agent = s.agent := rfl
@[simp] theorem onAdmission_notices (f : Admission → Admission) (s : State) : (s.onAdmission f).notices = s.notices := rfl
@[simp] theorem onAdmission_stamps (f : Admission → Admission) (s : State) : (s.onAdmission f).stamps = s.stamps := rfl
@[simp] theorem onAdmission_identity (f : Admission → Admission) (s : State) : (s.onAdmission f).identity = s.identity := rfl
@[simp] theorem onAdmission_led (f : Admission → Admission) (s : State) : (s.onAdmission f).led = s.led := rfl

@[simp] theorem onQueues_pending (f : Queues → Queues) (s : State) : (s.onQueues f).pending = s.pending := rfl
@[simp] theorem onQueues_now (f : Queues → Queues) (s : State) : (s.onQueues f).now = s.now := rfl
@[simp] theorem onQueues_resetRun (f : Queues → Queues) (s : State) : (s.onQueues f).resetRun = s.resetRun := rfl
@[simp] theorem onQueues_pins (f : Queues → Queues) (s : State) : (s.onQueues f).pins = s.pins := rfl
@[simp] theorem onQueues_store (f : Queues → Queues) (s : State) : (s.onQueues f).store = s.store := rfl
@[simp] theorem onQueues_engine (f : Queues → Queues) (s : State) : (s.onQueues f).engine = s.engine := rfl
@[simp] theorem onQueues_line (f : Queues → Queues) (s : State) : (s.onQueues f).line = s.line := rfl
@[simp] theorem onQueues_trunkCounters (f : Queues → Queues) (s : State) : (s.onQueues f).trunkCounters = s.trunkCounters := rfl
@[simp] theorem onQueues_stations (f : Queues → Queues) (s : State) : (s.onQueues f).stations = s.stations := rfl
@[simp] theorem onQueues_admission (f : Queues → Queues) (s : State) : (s.onQueues f).admission = s.admission := rfl
@[simp] theorem onQueues_queues (f : Queues → Queues) (s : State) : (s.onQueues f).queues = f s.queues := rfl
@[simp] theorem onQueues_uplink (f : Queues → Queues) (s : State) : (s.onQueues f).uplink = s.uplink := rfl
@[simp] theorem onQueues_agent (f : Queues → Queues) (s : State) : (s.onQueues f).agent = s.agent := rfl
@[simp] theorem onQueues_notices (f : Queues → Queues) (s : State) : (s.onQueues f).notices = s.notices := rfl
@[simp] theorem onQueues_stamps (f : Queues → Queues) (s : State) : (s.onQueues f).stamps = s.stamps := rfl
@[simp] theorem onQueues_identity (f : Queues → Queues) (s : State) : (s.onQueues f).identity = s.identity := rfl
@[simp] theorem onQueues_led (f : Queues → Queues) (s : State) : (s.onQueues f).led = s.led := rfl

@[simp] theorem onUplink_pending (f : Uplink → Uplink) (s : State) : (s.onUplink f).pending = s.pending := rfl
@[simp] theorem onUplink_now (f : Uplink → Uplink) (s : State) : (s.onUplink f).now = s.now := rfl
@[simp] theorem onUplink_resetRun (f : Uplink → Uplink) (s : State) : (s.onUplink f).resetRun = s.resetRun := rfl
@[simp] theorem onUplink_pins (f : Uplink → Uplink) (s : State) : (s.onUplink f).pins = s.pins := rfl
@[simp] theorem onUplink_store (f : Uplink → Uplink) (s : State) : (s.onUplink f).store = s.store := rfl
@[simp] theorem onUplink_engine (f : Uplink → Uplink) (s : State) : (s.onUplink f).engine = s.engine := rfl
@[simp] theorem onUplink_line (f : Uplink → Uplink) (s : State) : (s.onUplink f).line = s.line := rfl
@[simp] theorem onUplink_trunkCounters (f : Uplink → Uplink) (s : State) : (s.onUplink f).trunkCounters = s.trunkCounters := rfl
@[simp] theorem onUplink_stations (f : Uplink → Uplink) (s : State) : (s.onUplink f).stations = s.stations := rfl
@[simp] theorem onUplink_admission (f : Uplink → Uplink) (s : State) : (s.onUplink f).admission = s.admission := rfl
@[simp] theorem onUplink_queues (f : Uplink → Uplink) (s : State) : (s.onUplink f).queues = s.queues := rfl
@[simp] theorem onUplink_uplink (f : Uplink → Uplink) (s : State) : (s.onUplink f).uplink = f s.uplink := rfl
@[simp] theorem onUplink_agent (f : Uplink → Uplink) (s : State) : (s.onUplink f).agent = s.agent := rfl
@[simp] theorem onUplink_notices (f : Uplink → Uplink) (s : State) : (s.onUplink f).notices = s.notices := rfl
@[simp] theorem onUplink_stamps (f : Uplink → Uplink) (s : State) : (s.onUplink f).stamps = s.stamps := rfl
@[simp] theorem onUplink_identity (f : Uplink → Uplink) (s : State) : (s.onUplink f).identity = s.identity := rfl
@[simp] theorem onUplink_led (f : Uplink → Uplink) (s : State) : (s.onUplink f).led = s.led := rfl

@[simp] theorem onAgent_pending (f : Agent → Agent) (s : State) : (s.onAgent f).pending = s.pending := rfl
@[simp] theorem onAgent_now (f : Agent → Agent) (s : State) : (s.onAgent f).now = s.now := rfl
@[simp] theorem onAgent_resetRun (f : Agent → Agent) (s : State) : (s.onAgent f).resetRun = s.resetRun := rfl
@[simp] theorem onAgent_pins (f : Agent → Agent) (s : State) : (s.onAgent f).pins = s.pins := rfl
@[simp] theorem onAgent_store (f : Agent → Agent) (s : State) : (s.onAgent f).store = s.store := rfl
@[simp] theorem onAgent_engine (f : Agent → Agent) (s : State) : (s.onAgent f).engine = s.engine := rfl
@[simp] theorem onAgent_line (f : Agent → Agent) (s : State) : (s.onAgent f).line = s.line := rfl
@[simp] theorem onAgent_trunkCounters (f : Agent → Agent) (s : State) : (s.onAgent f).trunkCounters = s.trunkCounters := rfl
@[simp] theorem onAgent_stations (f : Agent → Agent) (s : State) : (s.onAgent f).stations = s.stations := rfl
@[simp] theorem onAgent_admission (f : Agent → Agent) (s : State) : (s.onAgent f).admission = s.admission := rfl
@[simp] theorem onAgent_queues (f : Agent → Agent) (s : State) : (s.onAgent f).queues = s.queues := rfl
@[simp] theorem onAgent_uplink (f : Agent → Agent) (s : State) : (s.onAgent f).uplink = s.uplink := rfl
@[simp] theorem onAgent_agent (f : Agent → Agent) (s : State) : (s.onAgent f).agent = f s.agent := rfl
@[simp] theorem onAgent_notices (f : Agent → Agent) (s : State) : (s.onAgent f).notices = s.notices := rfl
@[simp] theorem onAgent_stamps (f : Agent → Agent) (s : State) : (s.onAgent f).stamps = s.stamps := rfl
@[simp] theorem onAgent_identity (f : Agent → Agent) (s : State) : (s.onAgent f).identity = s.identity := rfl
@[simp] theorem onAgent_led (f : Agent → Agent) (s : State) : (s.onAgent f).led = s.led := rfl

@[simp] theorem onNotices_pending (f : NoticeList → NoticeList) (s : State) : (s.onNotices f).pending = s.pending := rfl
@[simp] theorem onNotices_now (f : NoticeList → NoticeList) (s : State) : (s.onNotices f).now = s.now := rfl
@[simp] theorem onNotices_resetRun (f : NoticeList → NoticeList) (s : State) : (s.onNotices f).resetRun = s.resetRun := rfl
@[simp] theorem onNotices_pins (f : NoticeList → NoticeList) (s : State) : (s.onNotices f).pins = s.pins := rfl
@[simp] theorem onNotices_store (f : NoticeList → NoticeList) (s : State) : (s.onNotices f).store = s.store := rfl
@[simp] theorem onNotices_engine (f : NoticeList → NoticeList) (s : State) : (s.onNotices f).engine = s.engine := rfl
@[simp] theorem onNotices_line (f : NoticeList → NoticeList) (s : State) : (s.onNotices f).line = s.line := rfl
@[simp] theorem onNotices_trunkCounters (f : NoticeList → NoticeList) (s : State) : (s.onNotices f).trunkCounters = s.trunkCounters := rfl
@[simp] theorem onNotices_stations (f : NoticeList → NoticeList) (s : State) : (s.onNotices f).stations = s.stations := rfl
@[simp] theorem onNotices_admission (f : NoticeList → NoticeList) (s : State) : (s.onNotices f).admission = s.admission := rfl
@[simp] theorem onNotices_queues (f : NoticeList → NoticeList) (s : State) : (s.onNotices f).queues = s.queues := rfl
@[simp] theorem onNotices_uplink (f : NoticeList → NoticeList) (s : State) : (s.onNotices f).uplink = s.uplink := rfl
@[simp] theorem onNotices_agent (f : NoticeList → NoticeList) (s : State) : (s.onNotices f).agent = s.agent := rfl
@[simp] theorem onNotices_notices (f : NoticeList → NoticeList) (s : State) : (s.onNotices f).notices = f s.notices := rfl
@[simp] theorem onNotices_stamps (f : NoticeList → NoticeList) (s : State) : (s.onNotices f).stamps = s.stamps := rfl
@[simp] theorem onNotices_identity (f : NoticeList → NoticeList) (s : State) : (s.onNotices f).identity = s.identity := rfl
@[simp] theorem onNotices_led (f : NoticeList → NoticeList) (s : State) : (s.onNotices f).led = s.led := rfl

@[simp] theorem onStamps_pending (f : Stamps → Stamps) (s : State) : (s.onStamps f).pending = s.pending := rfl
@[simp] theorem onStamps_now (f : Stamps → Stamps) (s : State) : (s.onStamps f).now = s.now := rfl
@[simp] theorem onStamps_resetRun (f : Stamps → Stamps) (s : State) : (s.onStamps f).resetRun = s.resetRun := rfl
@[simp] theorem onStamps_pins (f : Stamps → Stamps) (s : State) : (s.onStamps f).pins = s.pins := rfl
@[simp] theorem onStamps_store (f : Stamps → Stamps) (s : State) : (s.onStamps f).store = s.store := rfl
@[simp] theorem onStamps_engine (f : Stamps → Stamps) (s : State) : (s.onStamps f).engine = s.engine := rfl
@[simp] theorem onStamps_line (f : Stamps → Stamps) (s : State) : (s.onStamps f).line = s.line := rfl
@[simp] theorem onStamps_trunkCounters (f : Stamps → Stamps) (s : State) : (s.onStamps f).trunkCounters = s.trunkCounters := rfl
@[simp] theorem onStamps_stations (f : Stamps → Stamps) (s : State) : (s.onStamps f).stations = s.stations := rfl
@[simp] theorem onStamps_admission (f : Stamps → Stamps) (s : State) : (s.onStamps f).admission = s.admission := rfl
@[simp] theorem onStamps_queues (f : Stamps → Stamps) (s : State) : (s.onStamps f).queues = s.queues := rfl
@[simp] theorem onStamps_uplink (f : Stamps → Stamps) (s : State) : (s.onStamps f).uplink = s.uplink := rfl
@[simp] theorem onStamps_agent (f : Stamps → Stamps) (s : State) : (s.onStamps f).agent = s.agent := rfl
@[simp] theorem onStamps_notices (f : Stamps → Stamps) (s : State) : (s.onStamps f).notices = s.notices := rfl
@[simp] theorem onStamps_stamps (f : Stamps → Stamps) (s : State) : (s.onStamps f).stamps = f s.stamps := rfl
@[simp] theorem onStamps_identity (f : Stamps → Stamps) (s : State) : (s.onStamps f).identity = s.identity := rfl
@[simp] theorem onStamps_led (f : Stamps → Stamps) (s : State) : (s.onStamps f).led = s.led := rfl

@[simp] theorem onIdentity_pending (f : Identity → Identity) (s : State) : (s.onIdentity f).pending = s.pending := rfl
@[simp] theorem onIdentity_now (f : Identity → Identity) (s : State) : (s.onIdentity f).now = s.now := rfl
@[simp] theorem onIdentity_resetRun (f : Identity → Identity) (s : State) : (s.onIdentity f).resetRun = s.resetRun := rfl
@[simp] theorem onIdentity_pins (f : Identity → Identity) (s : State) : (s.onIdentity f).pins = s.pins := rfl
@[simp] theorem onIdentity_store (f : Identity → Identity) (s : State) : (s.onIdentity f).store = s.store := rfl
@[simp] theorem onIdentity_engine (f : Identity → Identity) (s : State) : (s.onIdentity f).engine = s.engine := rfl
@[simp] theorem onIdentity_line (f : Identity → Identity) (s : State) : (s.onIdentity f).line = s.line := rfl
@[simp] theorem onIdentity_trunkCounters (f : Identity → Identity) (s : State) : (s.onIdentity f).trunkCounters = s.trunkCounters := rfl
@[simp] theorem onIdentity_stations (f : Identity → Identity) (s : State) : (s.onIdentity f).stations = s.stations := rfl
@[simp] theorem onIdentity_admission (f : Identity → Identity) (s : State) : (s.onIdentity f).admission = s.admission := rfl
@[simp] theorem onIdentity_queues (f : Identity → Identity) (s : State) : (s.onIdentity f).queues = s.queues := rfl
@[simp] theorem onIdentity_uplink (f : Identity → Identity) (s : State) : (s.onIdentity f).uplink = s.uplink := rfl
@[simp] theorem onIdentity_agent (f : Identity → Identity) (s : State) : (s.onIdentity f).agent = s.agent := rfl
@[simp] theorem onIdentity_notices (f : Identity → Identity) (s : State) : (s.onIdentity f).notices = s.notices := rfl
@[simp] theorem onIdentity_stamps (f : Identity → Identity) (s : State) : (s.onIdentity f).stamps = s.stamps := rfl
@[simp] theorem onIdentity_identity (f : Identity → Identity) (s : State) : (s.onIdentity f).identity = f s.identity := rfl
@[simp] theorem onIdentity_led (f : Identity → Identity) (s : State) : (s.onIdentity f).led = s.led := rfl

@[simp] theorem onPins_pending (f : Pins → Pins) (s : State) : (s.onPins f).pending = s.pending := rfl
@[simp] theorem onPins_now (f : Pins → Pins) (s : State) : (s.onPins f).now = s.now := rfl
@[simp] theorem onPins_resetRun (f : Pins → Pins) (s : State) : (s.onPins f).resetRun = s.resetRun := rfl
@[simp] theorem onPins_pins (f : Pins → Pins) (s : State) : (s.onPins f).pins = f s.pins := rfl
@[simp] theorem onPins_store (f : Pins → Pins) (s : State) : (s.onPins f).store = s.store := rfl
@[simp] theorem onPins_engine (f : Pins → Pins) (s : State) : (s.onPins f).engine = s.engine := rfl
@[simp] theorem onPins_line (f : Pins → Pins) (s : State) : (s.onPins f).line = s.line := rfl
@[simp] theorem onPins_trunkCounters (f : Pins → Pins) (s : State) : (s.onPins f).trunkCounters = s.trunkCounters := rfl
@[simp] theorem onPins_stations (f : Pins → Pins) (s : State) : (s.onPins f).stations = s.stations := rfl
@[simp] theorem onPins_admission (f : Pins → Pins) (s : State) : (s.onPins f).admission = s.admission := rfl
@[simp] theorem onPins_queues (f : Pins → Pins) (s : State) : (s.onPins f).queues = s.queues := rfl
@[simp] theorem onPins_uplink (f : Pins → Pins) (s : State) : (s.onPins f).uplink = s.uplink := rfl
@[simp] theorem onPins_agent (f : Pins → Pins) (s : State) : (s.onPins f).agent = s.agent := rfl
@[simp] theorem onPins_notices (f : Pins → Pins) (s : State) : (s.onPins f).notices = s.notices := rfl
@[simp] theorem onPins_stamps (f : Pins → Pins) (s : State) : (s.onPins f).stamps = s.stamps := rfl
@[simp] theorem onPins_identity (f : Pins → Pins) (s : State) : (s.onPins f).identity = s.identity := rfl
@[simp] theorem onPins_led (f : Pins → Pins) (s : State) : (s.onPins f).led = s.led := rfl

@[simp] theorem onLed_pending (f : Led → Led) (s : State) : (s.onLed f).pending = s.pending := rfl
@[simp] theorem onLed_now (f : Led → Led) (s : State) : (s.onLed f).now = s.now := rfl
@[simp] theorem onLed_resetRun (f : Led → Led) (s : State) : (s.onLed f).resetRun = s.resetRun := rfl
@[simp] theorem onLed_pins (f : Led → Led) (s : State) : (s.onLed f).pins = s.pins := rfl
@[simp] theorem onLed_store (f : Led → Led) (s : State) : (s.onLed f).store = s.store := rfl
@[simp] theorem onLed_engine (f : Led → Led) (s : State) : (s.onLed f).engine = s.engine := rfl
@[simp] theorem onLed_line (f : Led → Led) (s : State) : (s.onLed f).line = s.line := rfl
@[simp] theorem onLed_trunkCounters (f : Led → Led) (s : State) : (s.onLed f).trunkCounters = s.trunkCounters := rfl
@[simp] theorem onLed_stations (f : Led → Led) (s : State) : (s.onLed f).stations = s.stations := rfl
@[simp] theorem onLed_admission (f : Led → Led) (s : State) : (s.onLed f).admission = s.admission := rfl
@[simp] theorem onLed_queues (f : Led → Led) (s : State) : (s.onLed f).queues = s.queues := rfl
@[simp] theorem onLed_uplink (f : Led → Led) (s : State) : (s.onLed f).uplink = s.uplink := rfl
@[simp] theorem onLed_agent (f : Led → Led) (s : State) : (s.onLed f).agent = s.agent := rfl
@[simp] theorem onLed_notices (f : Led → Led) (s : State) : (s.onLed f).notices = s.notices := rfl
@[simp] theorem onLed_stamps (f : Led → Led) (s : State) : (s.onLed f).stamps = s.stamps := rfl
@[simp] theorem onLed_identity (f : Led → Led) (s : State) : (s.onLed f).identity = s.identity := rfl
@[simp] theorem onLed_led (f : Led → Led) (s : State) : (s.onLed f).led = f s.led := rfl

@[simp] theorem enterTrunk_pending (t : TrunkState) (s : State) : (s.enterTrunk t).pending = s.pending := rfl
@[simp] theorem enterTrunk_now (t : TrunkState) (s : State) : (s.enterTrunk t).now = s.now := rfl
@[simp] theorem enterTrunk_resetRun (t : TrunkState) (s : State) : (s.enterTrunk t).resetRun = s.resetRun := rfl
@[simp] theorem enterTrunk_pins (t : TrunkState) (s : State) : (s.enterTrunk t).pins = s.pins := rfl
@[simp] theorem enterTrunk_store (t : TrunkState) (s : State) : (s.enterTrunk t).store = s.store := rfl
@[simp] theorem enterTrunk_engine (t : TrunkState) (s : State) : (s.enterTrunk t).engine = { s.engine with trunk := t } := rfl
@[simp] theorem enterTrunk_line (t : TrunkState) (s : State) : (s.enterTrunk t).line = s.line := rfl
@[simp] theorem enterTrunk_trunkCounters (t : TrunkState) (s : State) : (s.enterTrunk t).trunkCounters = s.trunkCounters := rfl
@[simp] theorem enterTrunk_stations (t : TrunkState) (s : State) : (s.enterTrunk t).stations = s.stations := rfl
@[simp] theorem enterTrunk_admission (t : TrunkState) (s : State) : (s.enterTrunk t).admission = s.admission := rfl
@[simp] theorem enterTrunk_queues (t : TrunkState) (s : State) : (s.enterTrunk t).queues = s.queues := rfl
@[simp] theorem enterTrunk_uplink (t : TrunkState) (s : State) : (s.enterTrunk t).uplink = s.uplink := rfl
@[simp] theorem enterTrunk_agent (t : TrunkState) (s : State) : (s.enterTrunk t).agent = s.agent := rfl
@[simp] theorem enterTrunk_notices (t : TrunkState) (s : State) : (s.enterTrunk t).notices = s.notices := rfl
@[simp] theorem enterTrunk_stamps (t : TrunkState) (s : State) : (s.enterTrunk t).stamps = s.stamps := rfl
@[simp] theorem enterTrunk_identity (t : TrunkState) (s : State) : (s.enterTrunk t).identity = s.identity := rfl
@[simp] theorem enterTrunk_led (t : TrunkState) (s : State) : (s.enterTrunk t).led = ledAtEntry s.now t := rfl

end Sys2Proof.Machine
end

