-- ==== Sys2Proof/Laws/Frames.lean ====
section
/-! SUPPORT. The frame of each shared operation: the fields of the state it never changes. -/

namespace Sys2Proof.Machine

@[simp] theorem raise_frame (kind : NoticeKind) (station : Option Nat) (detail : Detail) (s : State) :
    (s.raise kind station detail).pending = s.pending ∧ (s.raise kind station detail).now = s.now ∧
    (s.raise kind station detail).resetRun = s.resetRun ∧ (s.raise kind station detail).pins = s.pins ∧
    (s.raise kind station detail).store = s.store ∧ (s.raise kind station detail).engine = s.engine ∧
    (s.raise kind station detail).line = s.line ∧
    (s.raise kind station detail).trunkCounters = s.trunkCounters ∧
    (s.raise kind station detail).stations = s.stations ∧
    (s.raise kind station detail).admission = s.admission ∧ (s.raise kind station detail).queues = s.queues ∧
    (s.raise kind station detail).uplink = s.uplink ∧ (s.raise kind station detail).agent = s.agent ∧
    (s.raise kind station detail).stamps = s.stamps ∧ (s.raise kind station detail).identity = s.identity ∧
    (s.raise kind station detail).led = s.led :=
  ⟨rfl, rfl, rfl, rfl, rfl, rfl, rfl, rfl, rfl, rfl, rfl, rfl, rfl, rfl, rfl, rfl⟩

@[simp] theorem raiseTrunkState_frame (cause : TrunkCause) (s : State) :
    (s.raiseTrunkState cause).pending = s.pending ∧ (s.raiseTrunkState cause).now = s.now ∧
    (s.raiseTrunkState cause).resetRun = s.resetRun ∧ (s.raiseTrunkState cause).pins = s.pins ∧
    (s.raiseTrunkState cause).store = s.store ∧ (s.raiseTrunkState cause).engine = s.engine ∧
    (s.raiseTrunkState cause).line = s.line ∧ (s.raiseTrunkState cause).trunkCounters = s.trunkCounters ∧
    (s.raiseTrunkState cause).stations = s.stations ∧ (s.raiseTrunkState cause).admission = s.admission ∧
    (s.raiseTrunkState cause).queues = s.queues ∧ (s.raiseTrunkState cause).uplink = s.uplink ∧
    (s.raiseTrunkState cause).agent = s.agent ∧ (s.raiseTrunkState cause).stamps = s.stamps ∧
    (s.raiseTrunkState cause).identity = s.identity ∧ (s.raiseTrunkState cause).led = s.led :=
  ⟨rfl, rfl, rfl, rfl, rfl, rfl, rfl, rfl, rfl, rfl, rfl, rfl, rfl, rfl, rfl, rfl⟩

@[simp] theorem raiseRecovery_frame (station : Option Nat) (cause : RecoveryCause) (index : Option Nat) (s : State) :
    (s.raiseRecovery station cause index).pending = s.pending ∧
    (s.raiseRecovery station cause index).now = s.now ∧
    (s.raiseRecovery station cause index).resetRun = s.resetRun ∧
    (s.raiseRecovery station cause index).pins = s.pins ∧
    (s.raiseRecovery station cause index).store = s.store ∧
    (s.raiseRecovery station cause index).engine = s.engine ∧
    (s.raiseRecovery station cause index).line = s.line ∧
    (s.raiseRecovery station cause index).trunkCounters = s.trunkCounters ∧
    (s.raiseRecovery station cause index).stations = s.stations ∧
    (s.raiseRecovery station cause index).admission = s.admission ∧
    (s.raiseRecovery station cause index).queues = s.queues ∧
    (s.raiseRecovery station cause index).uplink = s.uplink ∧
    (s.raiseRecovery station cause index).agent = s.agent ∧
    (s.raiseRecovery station cause index).stamps = s.stamps ∧
    (s.raiseRecovery station cause index).identity = s.identity ∧
    (s.raiseRecovery station cause index).led = s.led :=
  ⟨rfl, rfl, rfl, rfl, rfl, rfl, rfl, rfl, rfl, rfl, rfl, rfl, rfl, rfl, rfl, rfl⟩

@[simp] theorem raiseStation_frame (r : Station) (cause : StationCause) (s : State) :
    (s.raiseStation r cause).pending = s.pending ∧ (s.raiseStation r cause).now = s.now ∧
    (s.raiseStation r cause).resetRun = s.resetRun ∧ (s.raiseStation r cause).pins = s.pins ∧
    (s.raiseStation r cause).store = s.store ∧ (s.raiseStation r cause).engine = s.engine ∧
    (s.raiseStation r cause).line = s.line ∧ (s.raiseStation r cause).trunkCounters = s.trunkCounters ∧
    (s.raiseStation r cause).stations = s.stations ∧ (s.raiseStation r cause).admission = s.admission ∧
    (s.raiseStation r cause).queues = s.queues ∧ (s.raiseStation r cause).uplink = s.uplink ∧
    (s.raiseStation r cause).agent = s.agent ∧ (s.raiseStation r cause).stamps = s.stamps ∧
    (s.raiseStation r cause).identity = s.identity ∧ (s.raiseStation r cause).led = s.led :=
  ⟨rfl, rfl, rfl, rfl, rfl, rfl, rfl, rfl, rfl, rfl, rfl, rfl, rfl, rfl, rfl, rfl⟩

@[simp] theorem raiseLeaseEnded_frame (cause : LeaseEnd) (tag : BitVec 16) (s : State) :
    (s.raiseLeaseEnded cause tag).pending = s.pending ∧ (s.raiseLeaseEnded cause tag).now = s.now ∧
    (s.raiseLeaseEnded cause tag).resetRun = s.resetRun ∧ (s.raiseLeaseEnded cause tag).pins = s.pins ∧
    (s.raiseLeaseEnded cause tag).store = s.store ∧ (s.raiseLeaseEnded cause tag).engine = s.engine ∧
    (s.raiseLeaseEnded cause tag).line = s.line ∧
    (s.raiseLeaseEnded cause tag).trunkCounters = s.trunkCounters ∧
    (s.raiseLeaseEnded cause tag).stations = s.stations ∧
    (s.raiseLeaseEnded cause tag).admission = s.admission ∧ (s.raiseLeaseEnded cause tag).queues = s.queues ∧
    (s.raiseLeaseEnded cause tag).uplink = s.uplink ∧ (s.raiseLeaseEnded cause tag).agent = s.agent ∧
    (s.raiseLeaseEnded cause tag).stamps = s.stamps ∧ (s.raiseLeaseEnded cause tag).identity = s.identity ∧
    (s.raiseLeaseEnded cause tag).led = s.led :=
  ⟨rfl, rfl, rfl, rfl, rfl, rfl, rfl, rfl, rfl, rfl, rfl, rfl, rfl, rfl, rfl, rfl⟩

@[simp] theorem swap_frame (s : State) :
    s.swap.pending = s.pending ∧ s.swap.now = s.now ∧ s.swap.resetRun = s.resetRun ∧ s.swap.pins = s.pins ∧
    s.swap.engine = s.engine ∧ s.swap.line = s.line ∧ s.swap.trunkCounters = s.trunkCounters ∧
    s.swap.stations = s.stations ∧ s.swap.admission = s.admission ∧ s.swap.queues = s.queues ∧
    s.swap.uplink = s.uplink ∧ s.swap.agent = s.agent ∧ s.swap.stamps = s.stamps ∧
    s.swap.identity = s.identity ∧ s.swap.led = s.led :=
  ⟨rfl, rfl, rfl, rfl, rfl, rfl, rfl, rfl, rfl, rfl, rfl, rfl, rfl, rfl, rfl⟩

@[simp] theorem swapPoint_frame (s : State) :
    s.swapPoint.pending = s.pending ∧ s.swapPoint.now = s.now ∧ s.swapPoint.resetRun = s.resetRun ∧
    s.swapPoint.pins = s.pins ∧ s.swapPoint.engine = s.engine ∧ s.swapPoint.line = s.line ∧
    s.swapPoint.trunkCounters = s.trunkCounters ∧ s.swapPoint.stations = s.stations ∧
    s.swapPoint.admission = s.admission ∧ s.swapPoint.queues = s.queues ∧ s.swapPoint.uplink = s.uplink ∧
    s.swapPoint.agent = s.agent ∧ s.swapPoint.stamps = s.stamps ∧ s.swapPoint.identity = s.identity ∧
    s.swapPoint.led = s.led := by
  unfold State.swapPoint
  (repeat' split) <;> simp

@[simp] theorem onStation_frame (n : Nat) (f : Station → Station) (s : State) :
    (s.onStation n f).pending = s.pending ∧ (s.onStation n f).now = s.now ∧
    (s.onStation n f).resetRun = s.resetRun ∧ (s.onStation n f).pins = s.pins ∧
    (s.onStation n f).store = s.store ∧ (s.onStation n f).engine = s.engine ∧ (s.onStation n f).line = s.line ∧
    (s.onStation n f).trunkCounters = s.trunkCounters ∧ (s.onStation n f).admission = s.admission ∧
    (s.onStation n f).queues = s.queues ∧ (s.onStation n f).uplink = s.uplink ∧
    (s.onStation n f).agent = s.agent ∧ (s.onStation n f).notices = s.notices ∧
    (s.onStation n f).stamps = s.stamps ∧ (s.onStation n f).identity = s.identity ∧
    (s.onStation n f).led = s.led :=
  ⟨rfl, rfl, rfl, rfl, rfl, rfl, rfl, rfl, rfl, rfl, rfl, rfl, rfl, rfl, rfl, rfl⟩

@[simp] theorem countStation_frame (n : Nat) (f : StationCounters → StationCounters) (s : State) :
    (s.countStation n f).pending = s.pending ∧ (s.countStation n f).now = s.now ∧
    (s.countStation n f).resetRun = s.resetRun ∧ (s.countStation n f).pins = s.pins ∧
    (s.countStation n f).store = s.store ∧ (s.countStation n f).engine = s.engine ∧
    (s.countStation n f).line = s.line ∧ (s.countStation n f).trunkCounters = s.trunkCounters ∧
    (s.countStation n f).admission = s.admission ∧ (s.countStation n f).queues = s.queues ∧
    (s.countStation n f).uplink = s.uplink ∧ (s.countStation n f).agent = s.agent ∧
    (s.countStation n f).notices = s.notices ∧ (s.countStation n f).stamps = s.stamps ∧
    (s.countStation n f).identity = s.identity ∧ (s.countStation n f).led = s.led :=
  ⟨rfl, rfl, rfl, rfl, rfl, rfl, rfl, rfl, rfl, rfl, rfl, rfl, rfl, rfl, rfl, rfl⟩

@[simp] theorem dropAtEnqueue_frame (q : QueueName) (c : Nat) (reason : DropReason) (s : State) :
    (s.dropAtEnqueue q c reason).pending = s.pending ∧ (s.dropAtEnqueue q c reason).now = s.now ∧
    (s.dropAtEnqueue q c reason).resetRun = s.resetRun ∧ (s.dropAtEnqueue q c reason).pins = s.pins ∧
    (s.dropAtEnqueue q c reason).store = s.store ∧ (s.dropAtEnqueue q c reason).engine = s.engine ∧
    (s.dropAtEnqueue q c reason).line = s.line ∧ (s.dropAtEnqueue q c reason).trunkCounters = s.trunkCounters ∧
    (s.dropAtEnqueue q c reason).stations = s.stations ∧ (s.dropAtEnqueue q c reason).admission = s.admission ∧
    (s.dropAtEnqueue q c reason).uplink = s.uplink ∧ (s.dropAtEnqueue q c reason).agent = s.agent ∧
    (s.dropAtEnqueue q c reason).stamps = s.stamps ∧ (s.dropAtEnqueue q c reason).identity = s.identity ∧
    (s.dropAtEnqueue q c reason).led = s.led := by
  unfold State.dropAtEnqueue
  (try dsimp only)
  (repeat' split) <;> simp

@[simp] theorem report_frame (station : Nat) (p : Report) (s : State) :
    (s.report station p).pending = s.pending ∧ (s.report station p).now = s.now ∧
    (s.report station p).resetRun = s.resetRun ∧ (s.report station p).pins = s.pins ∧
    (s.report station p).store = s.store ∧ (s.report station p).engine = s.engine ∧
    (s.report station p).line = s.line ∧ (s.report station p).trunkCounters = s.trunkCounters ∧
    (s.report station p).admission = s.admission ∧ (s.report station p).queues = s.queues ∧
    (s.report station p).uplink = s.uplink ∧ (s.report station p).agent = s.agent ∧
    (s.report station p).stamps = s.stamps ∧ (s.report station p).identity = s.identity ∧
    (s.report station p).led = s.led := by
  unfold State.report
  (try dsimp only)
  (repeat' split) <;> simp

@[simp] theorem startTx_frame (content : TrunkContent) (length : Nat) (s : State) :
    (s.startTx content length).pending = s.pending ∧ (s.startTx content length).now = s.now ∧
    (s.startTx content length).resetRun = s.resetRun ∧ (s.startTx content length).pins = s.pins ∧
    (s.startTx content length).store = s.store ∧ (s.startTx content length).engine = s.engine ∧
    (s.startTx content length).trunkCounters = s.trunkCounters ∧
    (s.startTx content length).stations = s.stations ∧ (s.startTx content length).admission = s.admission ∧
    (s.startTx content length).queues = s.queues ∧ (s.startTx content length).uplink = s.uplink ∧
    (s.startTx content length).agent = s.agent ∧ (s.startTx content length).notices = s.notices ∧
    (s.startTx content length).stamps = s.stamps ∧ (s.startTx content length).identity = s.identity ∧
    (s.startTx content length).led = s.led :=
  ⟨rfl, rfl, rfl, rfl, rfl, rfl, rfl, rfl, rfl, rfl, rfl, rfl, rfl, rfl, rfl, rfl⟩

@[simp] theorem sendMarker_frame (m : Marker) (s : State) :
    (s.sendMarker m).pending = s.pending ∧ (s.sendMarker m).now = s.now ∧
    (s.sendMarker m).resetRun = s.resetRun ∧ (s.sendMarker m).pins = s.pins ∧ (s.sendMarker m).store = s.store ∧
    (s.sendMarker m).engine = s.engine ∧ (s.sendMarker m).trunkCounters = s.trunkCounters ∧
    (s.sendMarker m).stations = s.stations ∧ (s.sendMarker m).admission = s.admission ∧
    (s.sendMarker m).queues = s.queues ∧ (s.sendMarker m).uplink = s.uplink ∧ (s.sendMarker m).agent = s.agent ∧
    (s.sendMarker m).notices = s.notices ∧ (s.sendMarker m).stamps = s.stamps ∧
    (s.sendMarker m).identity = s.identity ∧ (s.sendMarker m).led = s.led :=
  ⟨rfl, rfl, rfl, rfl, rfl, rfl, rfl, rfl, rfl, rfl, rfl, rfl, rfl, rfl, rfl, rfl⟩

@[simp] theorem stopTx_frame (cut : Bool) (s : State) :
    (s.stopTx cut).pending = s.pending ∧ (s.stopTx cut).now = s.now ∧ (s.stopTx cut).resetRun = s.resetRun ∧
    (s.stopTx cut).pins = s.pins ∧ (s.stopTx cut).store = s.store ∧ (s.stopTx cut).engine = s.engine ∧
    (s.stopTx cut).trunkCounters = s.trunkCounters ∧ (s.stopTx cut).stations = s.stations ∧
    (s.stopTx cut).admission = s.admission ∧ (s.stopTx cut).queues = s.queues ∧
    (s.stopTx cut).uplink = s.uplink ∧ (s.stopTx cut).agent = s.agent ∧ (s.stopTx cut).notices = s.notices ∧
    (s.stopTx cut).stamps = s.stamps ∧ (s.stopTx cut).identity = s.identity ∧ (s.stopTx cut).led = s.led :=
  ⟨rfl, rfl, rfl, rfl, rfl, rfl, rfl, rfl, rfl, rfl, rfl, rfl, rfl, rfl, rfl, rfl⟩

@[simp] theorem takeFrame_frame (q : QueueName) (s : State) :
    (s.takeFrame q).pending = s.pending ∧ (s.takeFrame q).now = s.now ∧ (s.takeFrame q).resetRun = s.resetRun ∧
    (s.takeFrame q).pins = s.pins ∧ (s.takeFrame q).store = s.store ∧ (s.takeFrame q).engine = s.engine ∧
    (s.takeFrame q).trunkCounters = s.trunkCounters ∧ (s.takeFrame q).stations = s.stations ∧
    (s.takeFrame q).admission = s.admission ∧ (s.takeFrame q).uplink = s.uplink ∧
    (s.takeFrame q).agent = s.agent ∧ (s.takeFrame q).notices = s.notices ∧ (s.takeFrame q).stamps = s.stamps ∧
    (s.takeFrame q).identity = s.identity ∧ (s.takeFrame q).led = s.led := by
  unfold State.takeFrame
  (repeat' split) <;> simp

@[simp] theorem takeHeadFrame_frame (q : QueueName) (s : State) :
    (s.takeHeadFrame q).pending = s.pending ∧ (s.takeHeadFrame q).now = s.now ∧
    (s.takeHeadFrame q).resetRun = s.resetRun ∧ (s.takeHeadFrame q).pins = s.pins ∧
    (s.takeHeadFrame q).store = s.store ∧ (s.takeHeadFrame q).trunkCounters = s.trunkCounters ∧
    (s.takeHeadFrame q).stations = s.stations ∧ (s.takeHeadFrame q).admission = s.admission ∧
    (s.takeHeadFrame q).uplink = s.uplink ∧ (s.takeHeadFrame q).agent = s.agent ∧
    (s.takeHeadFrame q).notices = s.notices ∧ (s.takeHeadFrame q).stamps = s.stamps ∧
    (s.takeHeadFrame q).identity = s.identity ∧ (s.takeHeadFrame q).led = s.led := by
  simp [State.takeHeadFrame]

@[simp] theorem considerFill_frame (s : State) :
    s.considerFill.pending = s.pending ∧ s.considerFill.now = s.now ∧ s.considerFill.resetRun = s.resetRun ∧
    s.considerFill.pins = s.pins ∧ s.considerFill.store = s.store ∧ s.considerFill.engine = s.engine ∧
    s.considerFill.trunkCounters = s.trunkCounters ∧ s.considerFill.stations = s.stations ∧
    s.considerFill.admission = s.admission ∧ s.considerFill.uplink = s.uplink ∧ s.considerFill.agent = s.agent ∧
    s.considerFill.notices = s.notices ∧ s.considerFill.stamps = s.stamps ∧
    s.considerFill.identity = s.identity ∧ s.considerFill.led = s.led := by
  unfold State.considerFill
  (repeat' split) <;> simp

@[simp] theorem enqueue_frame (q : QueueName) (f : Frame) (s : State) :
    (s.enqueue q f).pending = s.pending ∧ (s.enqueue q f).now = s.now ∧ (s.enqueue q f).resetRun = s.resetRun ∧
    (s.enqueue q f).pins = s.pins ∧ (s.enqueue q f).store = s.store ∧ (s.enqueue q f).engine = s.engine ∧
    (s.enqueue q f).trunkCounters = s.trunkCounters ∧ (s.enqueue q f).stations = s.stations ∧
    (s.enqueue q f).admission = s.admission ∧ (s.enqueue q f).uplink = s.uplink ∧
    (s.enqueue q f).agent = s.agent ∧ (s.enqueue q f).stamps = s.stamps ∧
    (s.enqueue q f).identity = s.identity ∧ (s.enqueue q f).led = s.led := by
  unfold State.enqueue
  (try dsimp only)
  (repeat' split) <;> simp

@[simp] theorem startUplink_frame (source : UplinkSource) (len : Nat) (s : State) :
    (s.startUplink source len).pending = s.pending ∧ (s.startUplink source len).now = s.now ∧
    (s.startUplink source len).resetRun = s.resetRun ∧ (s.startUplink source len).pins = s.pins ∧
    (s.startUplink source len).store = s.store ∧ (s.startUplink source len).engine = s.engine ∧
    (s.startUplink source len).line = s.line ∧ (s.startUplink source len).trunkCounters = s.trunkCounters ∧
    (s.startUplink source len).stations = s.stations ∧ (s.startUplink source len).admission = s.admission ∧
    (s.startUplink source len).queues = s.queues ∧ (s.startUplink source len).agent = s.agent ∧
    (s.startUplink source len).notices = s.notices ∧ (s.startUplink source len).stamps = s.stamps ∧
    (s.startUplink source len).identity = s.identity ∧ (s.startUplink source len).led = s.led :=
  ⟨rfl, rfl, rfl, rfl, rfl, rfl, rfl, rfl, rfl, rfl, rfl, rfl, rfl, rfl, rfl, rfl⟩

@[simp] theorem arbiterTake_frame (s : State) :
    s.arbiterTake.pending = s.pending ∧ s.arbiterTake.now = s.now ∧ s.arbiterTake.resetRun = s.resetRun ∧
    s.arbiterTake.pins = s.pins ∧ s.arbiterTake.store = s.store ∧ s.arbiterTake.engine = s.engine ∧
    s.arbiterTake.line = s.line ∧ s.arbiterTake.trunkCounters = s.trunkCounters ∧
    s.arbiterTake.stations = s.stations ∧ s.arbiterTake.admission = s.admission ∧
    s.arbiterTake.agent = s.agent ∧ s.arbiterTake.notices = s.notices ∧ s.arbiterTake.stamps = s.stamps ∧
    s.arbiterTake.identity = s.identity ∧ s.arbiterTake.led = s.led := by
  unfold State.arbiterTake
  (repeat' split) <;> simp

@[simp] theorem arbitrate_frame (s : State) :
    s.arbitrate.pending = s.pending ∧ s.arbitrate.now = s.now ∧ s.arbitrate.resetRun = s.resetRun ∧
    s.arbitrate.pins = s.pins ∧ s.arbitrate.store = s.store ∧ s.arbitrate.engine = s.engine ∧
    s.arbitrate.line = s.line ∧ s.arbitrate.trunkCounters = s.trunkCounters ∧
    s.arbitrate.stations = s.stations ∧ s.arbitrate.admission = s.admission ∧ s.arbitrate.agent = s.agent ∧
    s.arbitrate.notices = s.notices ∧ s.arbitrate.stamps = s.stamps ∧ s.arbitrate.identity = s.identity ∧
    s.arbitrate.led = s.led := by
  unfold State.arbitrate
  (repeat' split) <;> simp

@[simp] theorem countAgent_frame (f : AgentCounters → AgentCounters) (s : State) :
    (s.countAgent f).pending = s.pending ∧ (s.countAgent f).now = s.now ∧
    (s.countAgent f).resetRun = s.resetRun ∧ (s.countAgent f).pins = s.pins ∧ (s.countAgent f).store = s.store ∧
    (s.countAgent f).engine = s.engine ∧ (s.countAgent f).line = s.line ∧
    (s.countAgent f).trunkCounters = s.trunkCounters ∧ (s.countAgent f).stations = s.stations ∧
    (s.countAgent f).admission = s.admission ∧ (s.countAgent f).queues = s.queues ∧
    (s.countAgent f).uplink = s.uplink ∧ (s.countAgent f).notices = s.notices ∧
    (s.countAgent f).stamps = s.stamps ∧ (s.countAgent f).identity = s.identity ∧ (s.countAgent f).led = s.led :=
  ⟨rfl, rfl, rfl, rfl, rfl, rfl, rfl, rfl, rfl, rfl, rfl, rfl, rfl, rfl, rfl, rfl⟩

@[simp] theorem route_frame (origin : Port) (bytes : List Byte) (answersReset : Bool) (s : State) :
    (s.route origin bytes answersReset).pending = s.pending ∧ (s.route origin bytes answersReset).now = s.now ∧
    (s.route origin bytes answersReset).resetRun = s.resetRun ∧
    (s.route origin bytes answersReset).pins = s.pins ∧ (s.route origin bytes answersReset).store = s.store ∧
    (s.route origin bytes answersReset).engine = s.engine ∧
    (s.route origin bytes answersReset).trunkCounters = s.trunkCounters ∧
    (s.route origin bytes answersReset).stations = s.stations ∧
    (s.route origin bytes answersReset).admission = s.admission ∧
    (s.route origin bytes answersReset).uplink = s.uplink ∧
    (s.route origin bytes answersReset).stamps = s.stamps ∧
    (s.route origin bytes answersReset).identity = s.identity ∧ (s.route origin bytes answersReset).led = s.led := by
  unfold State.route
  (try dsimp only)
  (repeat' split) <;> simp

@[simp] theorem removeTaken_frame (s : State) :
    s.removeTaken.pending = s.pending ∧ s.removeTaken.now = s.now ∧ s.removeTaken.resetRun = s.resetRun ∧
    s.removeTaken.pins = s.pins ∧ s.removeTaken.store = s.store ∧ s.removeTaken.engine = s.engine ∧
    s.removeTaken.line = s.line ∧ s.removeTaken.trunkCounters = s.trunkCounters ∧
    s.removeTaken.stations = s.stations ∧ s.removeTaken.admission = s.admission ∧
    s.removeTaken.queues = s.queues ∧ s.removeTaken.uplink = s.uplink ∧ s.removeTaken.notices = s.notices ∧
    s.removeTaken.stamps = s.stamps ∧ s.removeTaken.identity = s.identity ∧ s.removeTaken.led = s.led :=
  ⟨rfl, rfl, rfl, rfl, rfl, rfl, rfl, rfl, rfl, rfl, rfl, rfl, rfl, rfl, rfl, rfl⟩

@[simp] theorem countRefused_frame (status : Status) (s : State) :
    (s.countRefused status).pending = s.pending ∧ (s.countRefused status).now = s.now ∧
    (s.countRefused status).resetRun = s.resetRun ∧ (s.countRefused status).pins = s.pins ∧
    (s.countRefused status).store = s.store ∧ (s.countRefused status).engine = s.engine ∧
    (s.countRefused status).line = s.line ∧ (s.countRefused status).trunkCounters = s.trunkCounters ∧
    (s.countRefused status).stations = s.stations ∧ (s.countRefused status).admission = s.admission ∧
    (s.countRefused status).queues = s.queues ∧ (s.countRefused status).uplink = s.uplink ∧
    (s.countRefused status).notices = s.notices ∧ (s.countRefused status).stamps = s.stamps ∧
    (s.countRefused status).identity = s.identity ∧ (s.countRefused status).led = s.led := by
  unfold State.countRefused
  (repeat' split) <;> simp

@[simp] theorem refuseUnstored_frame (status : Status) (q : Request) (s : State) :
    (s.refuseUnstored status q).pending = s.pending ∧ (s.refuseUnstored status q).now = s.now ∧
    (s.refuseUnstored status q).resetRun = s.resetRun ∧ (s.refuseUnstored status q).pins = s.pins ∧
    (s.refuseUnstored status q).store = s.store ∧ (s.refuseUnstored status q).engine = s.engine ∧
    (s.refuseUnstored status q).trunkCounters = s.trunkCounters ∧
    (s.refuseUnstored status q).stations = s.stations ∧ (s.refuseUnstored status q).admission = s.admission ∧
    (s.refuseUnstored status q).uplink = s.uplink ∧ (s.refuseUnstored status q).stamps = s.stamps ∧
    (s.refuseUnstored status q).identity = s.identity ∧ (s.refuseUnstored status q).led = s.led := by
  simp [State.refuseUnstored]

@[simp] theorem endLease_frame (s : State) :
    s.endLease.pending = s.pending ∧ s.endLease.now = s.now ∧ s.endLease.resetRun = s.resetRun ∧
    s.endLease.pins = s.pins ∧ s.endLease.engine = s.engine ∧ s.endLease.line = s.line ∧
    s.endLease.trunkCounters = s.trunkCounters ∧ s.endLease.stations = s.stations ∧
    s.endLease.admission = s.admission ∧ s.endLease.queues = s.queues ∧ s.endLease.uplink = s.uplink ∧
    s.endLease.notices = s.notices ∧ s.endLease.stamps = s.stamps ∧ s.endLease.identity = s.identity ∧
    s.endLease.led = s.led :=
  ⟨rfl, rfl, rfl, rfl, rfl, rfl, rfl, rfl, rfl, rfl, rfl, rfl, rfl, rfl, rfl⟩

@[simp] theorem expireLease_frame (s : State) :
    s.expireLease.pending = s.pending ∧ s.expireLease.resetRun = s.resetRun ∧ s.expireLease.pins = s.pins ∧
    s.expireLease.engine = s.engine ∧ s.expireLease.line = s.line ∧
    s.expireLease.trunkCounters = s.trunkCounters ∧ s.expireLease.stations = s.stations ∧
    s.expireLease.admission = s.admission ∧ s.expireLease.queues = s.queues ∧ s.expireLease.uplink = s.uplink ∧
    s.expireLease.stamps = s.stamps ∧ s.expireLease.identity = s.identity ∧ s.expireLease.led = s.led := by
  unfold State.expireLease
  (repeat' split) <;> simp

@[simp] theorem endIdleSession_frame (address : Addr) (tag : BitVec 16) (s : State) :
    (s.endIdleSession address tag).pending = s.pending ∧ (s.endIdleSession address tag).resetRun = s.resetRun ∧
    (s.endIdleSession address tag).pins = s.pins ∧ (s.endIdleSession address tag).store = s.store ∧
    (s.endIdleSession address tag).engine = s.engine ∧ (s.endIdleSession address tag).line = s.line ∧
    (s.endIdleSession address tag).trunkCounters = s.trunkCounters ∧
    (s.endIdleSession address tag).stations = s.stations ∧
    (s.endIdleSession address tag).admission = s.admission ∧ (s.endIdleSession address tag).queues = s.queues ∧
    (s.endIdleSession address tag).uplink = s.uplink ∧ (s.endIdleSession address tag).notices = s.notices ∧
    (s.endIdleSession address tag).stamps = s.stamps ∧ (s.endIdleSession address tag).identity = s.identity ∧
    (s.endIdleSession address tag).led = s.led := by
  unfold State.endIdleSession
  (repeat' split) <;> simp

@[simp] theorem raiseWithdrawn_frame (r : Station) (s : State) :
    (s.raiseWithdrawn r).pending = s.pending ∧ (s.raiseWithdrawn r).now = s.now ∧
    (s.raiseWithdrawn r).resetRun = s.resetRun ∧ (s.raiseWithdrawn r).pins = s.pins ∧
    (s.raiseWithdrawn r).store = s.store ∧ (s.raiseWithdrawn r).engine = s.engine ∧
    (s.raiseWithdrawn r).line = s.line ∧ (s.raiseWithdrawn r).trunkCounters = s.trunkCounters ∧
    (s.raiseWithdrawn r).stations = s.stations ∧ (s.raiseWithdrawn r).admission = s.admission ∧
    (s.raiseWithdrawn r).queues = s.queues ∧ (s.raiseWithdrawn r).uplink = s.uplink ∧
    (s.raiseWithdrawn r).agent = s.agent ∧ (s.raiseWithdrawn r).stamps = s.stamps ∧
    (s.raiseWithdrawn r).identity = s.identity ∧ (s.raiseWithdrawn r).led = s.led :=
  ⟨rfl, rfl, rfl, rfl, rfl, rfl, rfl, rfl, rfl, rfl, rfl, rfl, rfl, rfl, rfl, rfl⟩

@[simp] theorem retryNotice_frame (number : BitVec 16) (s : State) :
    (s.retryNotice number).pending = s.pending ∧ (s.retryNotice number).resetRun = s.resetRun ∧
    (s.retryNotice number).pins = s.pins ∧ (s.retryNotice number).store = s.store ∧
    (s.retryNotice number).engine = s.engine ∧ (s.retryNotice number).line = s.line ∧
    (s.retryNotice number).trunkCounters = s.trunkCounters ∧ (s.retryNotice number).stations = s.stations ∧
    (s.retryNotice number).admission = s.admission ∧ (s.retryNotice number).queues = s.queues ∧
    (s.retryNotice number).uplink = s.uplink ∧ (s.retryNotice number).agent = s.agent ∧
    (s.retryNotice number).stamps = s.stamps ∧ (s.retryNotice number).identity = s.identity ∧
    (s.retryNotice number).led = s.led := by
  unfold State.retryNotice
  (repeat' split) <;> simp

@[simp] theorem tickSecond_frame (s : State) :
    s.tickSecond.pending = s.pending ∧ s.tickSecond.resetRun = s.resetRun ∧ s.tickSecond.pins = s.pins ∧
    s.tickSecond.store = s.store ∧ s.tickSecond.engine = s.engine ∧ s.tickSecond.line = s.line ∧
    s.tickSecond.trunkCounters = s.trunkCounters ∧ s.tickSecond.stations = s.stations ∧
    s.tickSecond.admission = s.admission ∧ s.tickSecond.queues = s.queues ∧ s.tickSecond.uplink = s.uplink ∧
    s.tickSecond.agent = s.agent ∧ s.tickSecond.notices = s.notices ∧ s.tickSecond.stamps = s.stamps ∧
    s.tickSecond.led = s.led :=
  ⟨rfl, rfl, rfl, rfl, rfl, rfl, rfl, rfl, rfl, rfl, rfl, rfl, rfl, rfl, rfl⟩

@[simp] theorem offerAgent_frame (p : Presented) (s : State) :
    (s.offerAgent p).pending = s.pending ∧ (s.offerAgent p).now = s.now ∧
    (s.offerAgent p).resetRun = s.resetRun ∧ (s.offerAgent p).pins = s.pins ∧ (s.offerAgent p).store = s.store ∧
    (s.offerAgent p).engine = s.engine ∧ (s.offerAgent p).line = s.line ∧
    (s.offerAgent p).trunkCounters = s.trunkCounters ∧ (s.offerAgent p).stations = s.stations ∧
    (s.offerAgent p).queues = s.queues ∧ (s.offerAgent p).uplink = s.uplink ∧
    (s.offerAgent p).notices = s.notices ∧ (s.offerAgent p).stamps = s.stamps ∧
    (s.offerAgent p).identity = s.identity ∧ (s.offerAgent p).led = s.led := by
  unfold State.offerAgent
  (repeat' split) <;> simp

@[simp] theorem carryAction_frame (act : Action) (p : Presented) (s : State) :
    (s.carryAction act p).pending = s.pending ∧ (s.carryAction act p).now = s.now ∧
    (s.carryAction act p).resetRun = s.resetRun ∧ (s.carryAction act p).pins = s.pins ∧
    (s.carryAction act p).store = s.store ∧ (s.carryAction act p).engine = s.engine ∧
    (s.carryAction act p).trunkCounters = s.trunkCounters ∧ (s.carryAction act p).stations = s.stations ∧
    (s.carryAction act p).uplink = s.uplink ∧ (s.carryAction act p).stamps = s.stamps ∧
    (s.carryAction act p).identity = s.identity ∧ (s.carryAction act p).led = s.led := by
  unfold State.carryAction
  (repeat' split) <;> simp

@[simp] theorem present_frame (p : Presented) (s : State) :
    (s.present p).pending = s.pending ∧ (s.present p).now = s.now ∧ (s.present p).resetRun = s.resetRun ∧
    (s.present p).pins = s.pins ∧ (s.present p).store = s.store ∧ (s.present p).engine = s.engine ∧
    (s.present p).trunkCounters = s.trunkCounters ∧ (s.present p).stations = s.stations ∧
    (s.present p).uplink = s.uplink ∧ (s.present p).stamps = s.stamps ∧ (s.present p).identity = s.identity ∧
    (s.present p).led = s.led := by
  simp [State.present]

@[simp] theorem countTrunk_frame (f : TrunkCounters → TrunkCounters) (s : State) :
    (s.countTrunk f).pending = s.pending ∧ (s.countTrunk f).now = s.now ∧
    (s.countTrunk f).resetRun = s.resetRun ∧ (s.countTrunk f).pins = s.pins ∧ (s.countTrunk f).store = s.store ∧
    (s.countTrunk f).engine = s.engine ∧ (s.countTrunk f).line = s.line ∧
    (s.countTrunk f).stations = s.stations ∧ (s.countTrunk f).admission = s.admission ∧
    (s.countTrunk f).queues = s.queues ∧ (s.countTrunk f).uplink = s.uplink ∧ (s.countTrunk f).agent = s.agent ∧
    (s.countTrunk f).notices = s.notices ∧ (s.countTrunk f).stamps = s.stamps ∧
    (s.countTrunk f).identity = s.identity ∧ (s.countTrunk f).led = s.led :=
  ⟨rfl, rfl, rfl, rfl, rfl, rfl, rfl, rfl, rfl, rfl, rfl, rfl, rfl, rfl, rfl, rfl⟩

@[simp] theorem toTurnaround_frame (s : State) :
    s.toTurnaround.pending = s.pending ∧ s.toTurnaround.now = s.now ∧ s.toTurnaround.resetRun = s.resetRun ∧
    s.toTurnaround.pins = s.pins ∧ s.toTurnaround.store = s.store ∧ s.toTurnaround.line = s.line ∧
    s.toTurnaround.trunkCounters = s.trunkCounters ∧ s.toTurnaround.stations = s.stations ∧
    s.toTurnaround.admission = s.admission ∧ s.toTurnaround.queues = s.queues ∧
    s.toTurnaround.uplink = s.uplink ∧ s.toTurnaround.agent = s.agent ∧ s.toTurnaround.notices = s.notices ∧
    s.toTurnaround.stamps = s.stamps ∧ s.toTurnaround.identity = s.identity ∧ s.toTurnaround.led = s.led :=
  ⟨rfl, rfl, rfl, rfl, rfl, rfl, rfl, rfl, rfl, rfl, rfl, rfl, rfl, rfl, rfl, rfl⟩

@[simp] theorem toQuieting_frame (s : State) :
    s.toQuieting.pending = s.pending ∧ s.toQuieting.now = s.now ∧ s.toQuieting.resetRun = s.resetRun ∧
    s.toQuieting.pins = s.pins ∧ s.toQuieting.store = s.store ∧ s.toQuieting.line = s.line ∧
    s.toQuieting.trunkCounters = s.trunkCounters ∧ s.toQuieting.stations = s.stations ∧
    s.toQuieting.admission = s.admission ∧ s.toQuieting.queues = s.queues ∧ s.toQuieting.uplink = s.uplink ∧
    s.toQuieting.agent = s.agent ∧ s.toQuieting.notices = s.notices ∧ s.toQuieting.stamps = s.stamps ∧
    s.toQuieting.identity = s.identity ∧ s.toQuieting.led = s.led :=
  ⟨rfl, rfl, rfl, rfl, rfl, rfl, rfl, rfl, rfl, rfl, rfl, rfl, rfl, rfl, rfl, rfl⟩

@[simp] theorem enterStopped_frame (s : State) :
    s.enterStopped.pending = s.pending ∧ s.enterStopped.now = s.now ∧ s.enterStopped.resetRun = s.resetRun ∧
    s.enterStopped.pins = s.pins ∧ s.enterStopped.line = s.line ∧
    s.enterStopped.trunkCounters = s.trunkCounters ∧ s.enterStopped.stations = s.stations ∧
    s.enterStopped.admission = s.admission ∧ s.enterStopped.queues = s.queues ∧
    s.enterStopped.uplink = s.uplink ∧ s.enterStopped.agent = s.agent ∧ s.enterStopped.stamps = s.stamps ∧
    s.enterStopped.identity = s.identity := by
  simp [State.enterStopped]

@[simp] theorem roundBoundary_frame (s : State) :
    s.roundBoundary.pending = s.pending ∧ s.roundBoundary.now = s.now ∧ s.roundBoundary.resetRun = s.resetRun ∧
    s.roundBoundary.pins = s.pins ∧ s.roundBoundary.stations = s.stations ∧
    s.roundBoundary.admission = s.admission ∧ s.roundBoundary.queues = s.queues ∧
    s.roundBoundary.uplink = s.uplink ∧ s.roundBoundary.agent = s.agent ∧ s.roundBoundary.stamps = s.stamps ∧
    s.roundBoundary.identity = s.identity ∧ s.roundBoundary.led = s.led := by
  simp [State.roundBoundary]

@[simp] theorem endRound_frame (s : State) :
    s.endRound.pending = s.pending ∧ s.endRound.now = s.now ∧ s.endRound.resetRun = s.resetRun ∧
    s.endRound.pins = s.pins ∧ s.endRound.stations = s.stations ∧ s.endRound.admission = s.admission ∧
    s.endRound.uplink = s.uplink ∧ s.endRound.agent = s.agent ∧ s.endRound.stamps = s.stamps ∧
    s.endRound.identity = s.identity ∧ s.endRound.led = s.led := by
  unfold State.endRound
  (try dsimp only)
  (repeat' split) <;> simp

@[simp] theorem startCall_frame (e : RoundEntry) (s : State) :
    (s.startCall e).pending = s.pending ∧ (s.startCall e).now = s.now ∧ (s.startCall e).resetRun = s.resetRun ∧
    (s.startCall e).pins = s.pins ∧ (s.startCall e).store = s.store ∧
    (s.startCall e).trunkCounters = s.trunkCounters ∧ (s.startCall e).stations = s.stations ∧
    (s.startCall e).admission = s.admission ∧ (s.startCall e).queues = s.queues ∧
    (s.startCall e).uplink = s.uplink ∧ (s.startCall e).agent = s.agent ∧ (s.startCall e).notices = s.notices ∧
    (s.startCall e).stamps = s.stamps ∧ (s.startCall e).identity = s.identity ∧ (s.startCall e).led = s.led :=
  ⟨rfl, rfl, rfl, rfl, rfl, rfl, rfl, rfl, rfl, rfl, rfl, rfl, rfl, rfl, rfl⟩

@[simp] theorem startHeadEntry_frame (e : RoundEntry) (q : QueueName) (s : State) :
    (s.startHeadEntry e q).pending = s.pending ∧ (s.startHeadEntry e q).now = s.now ∧
    (s.startHeadEntry e q).resetRun = s.resetRun ∧ (s.startHeadEntry e q).pins = s.pins ∧
    (s.startHeadEntry e q).store = s.store ∧ (s.startHeadEntry e q).trunkCounters = s.trunkCounters ∧
    (s.startHeadEntry e q).stations = s.stations ∧ (s.startHeadEntry e q).admission = s.admission ∧
    (s.startHeadEntry e q).uplink = s.uplink ∧ (s.startHeadEntry e q).agent = s.agent ∧
    (s.startHeadEntry e q).notices = s.notices ∧ (s.startHeadEntry e q).stamps = s.stamps ∧
    (s.startHeadEntry e q).identity = s.identity ∧ (s.startHeadEntry e q).led = s.led := by
  simp [State.startHeadEntry]

@[simp] theorem skipStation_frame (n : Nat) (s : State) :
    (s.skipStation n).pending = s.pending ∧ (s.skipStation n).now = s.now ∧
    (s.skipStation n).resetRun = s.resetRun ∧ (s.skipStation n).pins = s.pins ∧
    (s.skipStation n).store = s.store ∧ (s.skipStation n).engine = s.engine ∧ (s.skipStation n).line = s.line ∧
    (s.skipStation n).trunkCounters = s.trunkCounters ∧ (s.skipStation n).admission = s.admission ∧
    (s.skipStation n).queues = s.queues ∧ (s.skipStation n).uplink = s.uplink ∧
    (s.skipStation n).agent = s.agent ∧ (s.skipStation n).notices = s.notices ∧
    (s.skipStation n).stamps = s.stamps ∧ (s.skipStation n).identity = s.identity ∧
    (s.skipStation n).led = s.led :=
  ⟨rfl, rfl, rfl, rfl, rfl, rfl, rfl, rfl, rfl, rfl, rfl, rfl, rfl, rfl, rfl, rfl⟩

@[simp] theorem startEntries_frame (l : List RoundEntry) (i : Nat) (s : State) :
    (startEntries l i s).pending = s.pending ∧ (startEntries l i s).now = s.now ∧
    (startEntries l i s).resetRun = s.resetRun ∧ (startEntries l i s).pins = s.pins ∧
    (startEntries l i s).admission = s.admission ∧ (startEntries l i s).uplink = s.uplink ∧
    (startEntries l i s).agent = s.agent ∧ (startEntries l i s).stamps = s.stamps ∧
    (startEntries l i s).identity = s.identity ∧ (startEntries l i s).led = s.led := by
  induction l generalizing i s with
  | nil => simp [startEntries]
  | cons e rest ih =>
    simp only [startEntries]
    (repeat' split) <;> simp [ih]

@[simp] theorem startEntry_frame (s : State) :
    s.startEntry.pending = s.pending ∧ s.startEntry.now = s.now ∧ s.startEntry.resetRun = s.resetRun ∧
    s.startEntry.pins = s.pins ∧ s.startEntry.admission = s.admission ∧ s.startEntry.uplink = s.uplink ∧
    s.startEntry.agent = s.agent ∧ s.startEntry.stamps = s.stamps ∧ s.startEntry.identity = s.identity ∧
    s.startEntry.led = s.led := by
  simp [State.startEntry]

@[simp] theorem reportOutcome_frame (o : CallOutcome) (s : State) :
    (s.reportOutcome o).pending = s.pending ∧ (s.reportOutcome o).now = s.now ∧
    (s.reportOutcome o).resetRun = s.resetRun ∧ (s.reportOutcome o).pins = s.pins ∧
    (s.reportOutcome o).store = s.store ∧ (s.reportOutcome o).engine = s.engine ∧
    (s.reportOutcome o).line = s.line ∧ (s.reportOutcome o).trunkCounters = s.trunkCounters ∧
    (s.reportOutcome o).admission = s.admission ∧ (s.reportOutcome o).queues = s.queues ∧
    (s.reportOutcome o).uplink = s.uplink ∧ (s.reportOutcome o).agent = s.agent ∧
    (s.reportOutcome o).stamps = s.stamps ∧ (s.reportOutcome o).identity = s.identity ∧
    (s.reportOutcome o).led = s.led := by
  simp [State.reportOutcome]

@[simp] theorem enterBlocked_frame (station : Option Nat) (cause : TrunkCause) (s : State) :
    (s.enterBlocked station cause).pending = s.pending ∧ (s.enterBlocked station cause).now = s.now ∧
    (s.enterBlocked station cause).resetRun = s.resetRun ∧ (s.enterBlocked station cause).pins = s.pins ∧
    (s.enterBlocked station cause).store = s.store ∧ (s.enterBlocked station cause).line = s.line ∧
    (s.enterBlocked station cause).stations = s.stations ∧
    (s.enterBlocked station cause).admission = s.admission ∧ (s.enterBlocked station cause).queues = s.queues ∧
    (s.enterBlocked station cause).uplink = s.uplink ∧ (s.enterBlocked station cause).agent = s.agent ∧
    (s.enterBlocked station cause).stamps = s.stamps ∧ (s.enterBlocked station cause).identity = s.identity := by
  simp [State.enterBlocked]

@[simp] theorem endCall_frame (o : CallOutcome) (s : State) :
    (s.endCall o).pending = s.pending ∧ (s.endCall o).now = s.now ∧ (s.endCall o).resetRun = s.resetRun ∧
    (s.endCall o).pins = s.pins ∧ (s.endCall o).line = s.line ∧ (s.endCall o).admission = s.admission ∧
    (s.endCall o).queues = s.queues ∧ (s.endCall o).uplink = s.uplink ∧ (s.endCall o).agent = s.agent ∧
    (s.endCall o).stamps = s.stamps ∧ (s.endCall o).identity = s.identity := by
  unfold State.endCall
  simp only [State.leadTo]
  (repeat' split) <;> simp

@[simp] theorem continueCall_frame (s : State) :
    s.continueCall.pending = s.pending ∧ s.continueCall.now = s.now ∧ s.continueCall.resetRun = s.resetRun ∧
    s.continueCall.pins = s.pins ∧ s.continueCall.store = s.store ∧ s.continueCall.line = s.line ∧
    s.continueCall.trunkCounters = s.trunkCounters ∧ s.continueCall.stations = s.stations ∧
    s.continueCall.admission = s.admission ∧ s.continueCall.queues = s.queues ∧
    s.continueCall.uplink = s.uplink ∧ s.continueCall.agent = s.agent ∧ s.continueCall.notices = s.notices ∧
    s.continueCall.stamps = s.stamps ∧ s.continueCall.identity = s.identity ∧ s.continueCall.led = s.led :=
  ⟨rfl, rfl, rfl, rfl, rfl, rfl, rfl, rfl, rfl, rfl, rfl, rfl, rfl, rfl, rfl, rfl⟩

@[simp] theorem badFrameEnd_frame (reason : BadReason) (s : State) :
    (s.badFrameEnd reason).pending = s.pending ∧ (s.badFrameEnd reason).now = s.now ∧
    (s.badFrameEnd reason).resetRun = s.resetRun ∧ (s.badFrameEnd reason).pins = s.pins ∧
    (s.badFrameEnd reason).store = s.store ∧ (s.badFrameEnd reason).line = s.line ∧
    (s.badFrameEnd reason).trunkCounters = s.trunkCounters ∧ (s.badFrameEnd reason).admission = s.admission ∧
    (s.badFrameEnd reason).queues = s.queues ∧ (s.badFrameEnd reason).uplink = s.uplink ∧
    (s.badFrameEnd reason).agent = s.agent ∧ (s.badFrameEnd reason).notices = s.notices ∧
    (s.badFrameEnd reason).stamps = s.stamps ∧ (s.badFrameEnd reason).identity = s.identity ∧
    (s.badFrameEnd reason).led = s.led :=
  ⟨rfl, rfl, rfl, rfl, rfl, rfl, rfl, rfl, rfl, rfl, rfl, rfl, rfl, rfl, rfl⟩

@[simp] theorem validFrameEnd_frame (bytes : List Byte) (s : State) :
    (s.validFrameEnd bytes).pending = s.pending ∧ (s.validFrameEnd bytes).now = s.now ∧
    (s.validFrameEnd bytes).resetRun = s.resetRun ∧ (s.validFrameEnd bytes).pins = s.pins ∧
    (s.validFrameEnd bytes).store = s.store ∧ (s.validFrameEnd bytes).trunkCounters = s.trunkCounters ∧
    (s.validFrameEnd bytes).uplink = s.uplink ∧ (s.validFrameEnd bytes).stamps = s.stamps ∧
    (s.validFrameEnd bytes).identity = s.identity ∧ (s.validFrameEnd bytes).led = s.led := by
  unfold State.validFrameEnd
  (try dsimp only)
  (repeat' split) <;> simp

@[simp] theorem passEnd_frame (s : State) :
    s.passEnd.pending = s.pending ∧ s.passEnd.now = s.now ∧ s.passEnd.resetRun = s.resetRun ∧
    s.passEnd.pins = s.pins ∧ s.passEnd.line = s.line ∧ s.passEnd.admission = s.admission ∧
    s.passEnd.queues = s.queues ∧ s.passEnd.uplink = s.uplink ∧ s.passEnd.agent = s.agent ∧
    s.passEnd.stamps = s.stamps ∧ s.passEnd.identity = s.identity := by
  simp [State.passEnd]

@[simp] theorem answerEnd_frame (c : BurstClass) (s : State) :
    (s.answerEnd c).pending = s.pending ∧ (s.answerEnd c).now = s.now ∧ (s.answerEnd c).resetRun = s.resetRun ∧
    (s.answerEnd c).pins = s.pins ∧ (s.answerEnd c).uplink = s.uplink ∧ (s.answerEnd c).stamps = s.stamps ∧
    (s.answerEnd c).identity = s.identity := by
  unfold State.answerEnd
  (repeat' split) <;> simp

@[simp] theorem strayOutside_frame (s : State) :
    s.strayOutside.pending = s.pending ∧ s.strayOutside.now = s.now ∧ s.strayOutside.resetRun = s.resetRun ∧
    s.strayOutside.pins = s.pins ∧ s.strayOutside.store = s.store ∧ s.strayOutside.engine = s.engine ∧
    s.strayOutside.line = s.line ∧ s.strayOutside.stations = s.stations ∧
    s.strayOutside.admission = s.admission ∧ s.strayOutside.queues = s.queues ∧
    s.strayOutside.uplink = s.uplink ∧ s.strayOutside.agent = s.agent ∧ s.strayOutside.stamps = s.stamps ∧
    s.strayOutside.identity = s.identity ∧ s.strayOutside.led = s.led :=
  ⟨rfl, rfl, rfl, rfl, rfl, rfl, rfl, rfl, rfl, rfl, rfl, rfl, rfl, rfl, rfl⟩

@[simp] theorem suspendFill_frame (s : State) :
    s.suspendFill.pending = s.pending ∧ s.suspendFill.now = s.now ∧ s.suspendFill.resetRun = s.resetRun ∧
    s.suspendFill.pins = s.pins ∧ s.suspendFill.store = s.store ∧ s.suspendFill.line = s.line ∧
    s.suspendFill.trunkCounters = s.trunkCounters ∧ s.suspendFill.stations = s.stations ∧
    s.suspendFill.admission = s.admission ∧ s.suspendFill.queues = s.queues ∧ s.suspendFill.uplink = s.uplink ∧
    s.suspendFill.agent = s.agent ∧ s.suspendFill.notices = s.notices ∧ s.suspendFill.stamps = s.stamps ∧
    s.suspendFill.identity = s.identity ∧ s.suspendFill.led = s.led :=
  ⟨rfl, rfl, rfl, rfl, rfl, rfl, rfl, rfl, rfl, rfl, rfl, rfl, rfl, rfl, rfl, rfl⟩

@[simp] theorem engineCarrierOn_frame (s : State) :
    s.engineCarrierOn.pending = s.pending ∧ s.engineCarrierOn.now = s.now ∧
    s.engineCarrierOn.resetRun = s.resetRun ∧ s.engineCarrierOn.pins = s.pins ∧
    s.engineCarrierOn.store = s.store ∧ s.engineCarrierOn.line = s.line ∧
    s.engineCarrierOn.stations = s.stations ∧ s.engineCarrierOn.admission = s.admission ∧
    s.engineCarrierOn.queues = s.queues ∧ s.engineCarrierOn.uplink = s.uplink ∧
    s.engineCarrierOn.agent = s.agent ∧ s.engineCarrierOn.stamps = s.stamps ∧
    s.engineCarrierOn.identity = s.identity ∧ s.engineCarrierOn.led = s.led := by
  unfold State.engineCarrierOn
  (repeat' split) <;> simp

@[simp] theorem engineCarrierOff_frame (c : BurstClass) (s : State) :
    (s.engineCarrierOff c).pending = s.pending ∧ (s.engineCarrierOff c).now = s.now ∧
    (s.engineCarrierOff c).resetRun = s.resetRun ∧ (s.engineCarrierOff c).pins = s.pins ∧
    (s.engineCarrierOff c).uplink = s.uplink ∧ (s.engineCarrierOff c).stamps = s.stamps ∧
    (s.engineCarrierOff c).identity = s.identity := by
  unfold State.engineCarrierOff
  (repeat' split) <;> simp

@[simp] theorem engineBurstCollision_frame (s : State) :
    s.engineBurstCollision.pending = s.pending ∧ s.engineBurstCollision.now = s.now ∧
    s.engineBurstCollision.resetRun = s.resetRun ∧ s.engineBurstCollision.pins = s.pins ∧
    s.engineBurstCollision.line = s.line ∧ s.engineBurstCollision.admission = s.admission ∧
    s.engineBurstCollision.queues = s.queues ∧ s.engineBurstCollision.uplink = s.uplink ∧
    s.engineBurstCollision.agent = s.agent ∧ s.engineBurstCollision.stamps = s.stamps ∧
    s.engineBurstCollision.identity = s.identity := by
  unfold State.engineBurstCollision
  (repeat' split) <;> simp

@[simp] theorem markerCollision_frame (s : State) :
    s.markerCollision.pending = s.pending ∧ s.markerCollision.now = s.now ∧
    s.markerCollision.resetRun = s.resetRun ∧ s.markerCollision.pins = s.pins ∧
    s.markerCollision.store = s.store ∧ s.markerCollision.line = s.line ∧
    s.markerCollision.stations = s.stations ∧ s.markerCollision.admission = s.admission ∧
    s.markerCollision.queues = s.queues ∧ s.markerCollision.uplink = s.uplink ∧
    s.markerCollision.agent = s.agent ∧ s.markerCollision.stamps = s.stamps ∧
    s.markerCollision.identity = s.identity ∧ s.markerCollision.led = s.led := by
  unfold State.markerCollision
  (repeat' split) <;> simp

@[simp] theorem frameCollision_frame (s : State) :
    s.frameCollision.pending = s.pending ∧ s.frameCollision.now = s.now ∧
    s.frameCollision.resetRun = s.resetRun ∧ s.frameCollision.pins = s.pins ∧ s.frameCollision.line = s.line ∧
    s.frameCollision.stations = s.stations ∧ s.frameCollision.admission = s.admission ∧
    s.frameCollision.uplink = s.uplink ∧ s.frameCollision.agent = s.agent ∧ s.frameCollision.stamps = s.stamps ∧
    s.frameCollision.identity = s.identity := by
  unfold State.frameCollision
  (try dsimp only)
  (repeat' split) <;> simp

@[simp] theorem engineOverrun_frame (s : State) :
    s.engineOverrun.pending = s.pending ∧ s.engineOverrun.now = s.now ∧ s.engineOverrun.resetRun = s.resetRun ∧
    s.engineOverrun.pins = s.pins ∧ s.engineOverrun.line = s.line ∧ s.engineOverrun.admission = s.admission ∧
    s.engineOverrun.queues = s.queues ∧ s.engineOverrun.uplink = s.uplink ∧ s.engineOverrun.agent = s.agent ∧
    s.engineOverrun.stamps = s.stamps ∧ s.engineOverrun.identity = s.identity := by
  unfold State.engineOverrun
  (repeat' split) <;> simp

@[simp] theorem markerSent_frame (s : State) :
    s.markerSent.pending = s.pending ∧ s.markerSent.now = s.now ∧ s.markerSent.resetRun = s.resetRun ∧
    s.markerSent.pins = s.pins ∧ s.markerSent.store = s.store ∧ s.markerSent.line = s.line ∧
    s.markerSent.trunkCounters = s.trunkCounters ∧ s.markerSent.admission = s.admission ∧
    s.markerSent.queues = s.queues ∧ s.markerSent.uplink = s.uplink ∧ s.markerSent.agent = s.agent ∧
    s.markerSent.notices = s.notices ∧ s.markerSent.stamps = s.stamps ∧ s.markerSent.identity = s.identity ∧
    s.markerSent.led = s.led := by
  unfold State.markerSent
  (try dsimp only)
  (repeat' split) <;> simp

@[simp] theorem endMarker_frame (s : State) :
    s.endMarker.pending = s.pending ∧ s.endMarker.resetRun = s.resetRun ∧ s.endMarker.pins = s.pins ∧
    s.endMarker.store = s.store ∧ s.endMarker.trunkCounters = s.trunkCounters ∧
    s.endMarker.admission = s.admission ∧ s.endMarker.queues = s.queues ∧ s.endMarker.uplink = s.uplink ∧
    s.endMarker.agent = s.agent ∧ s.endMarker.notices = s.notices ∧ s.endMarker.stamps = s.stamps ∧
    s.endMarker.identity = s.identity ∧ s.endMarker.led = s.led := by
  unfold State.endMarker
  (repeat' split) <;> simp

@[simp] theorem frameSent_frame (s : State) :
    s.frameSent.pending = s.pending ∧ s.frameSent.now = s.now ∧ s.frameSent.resetRun = s.resetRun ∧
    s.frameSent.pins = s.pins ∧ s.frameSent.line = s.line ∧ s.frameSent.trunkCounters = s.trunkCounters ∧
    s.frameSent.stations = s.stations ∧ s.frameSent.admission = s.admission ∧ s.frameSent.queues = s.queues ∧
    s.frameSent.uplink = s.uplink ∧ s.frameSent.agent = s.agent ∧ s.frameSent.stamps = s.stamps ∧
    s.frameSent.identity = s.identity := by
  unfold State.frameSent
  (repeat' split) <;> simp

@[simp] theorem endHeadFrame_frame (s : State) :
    s.endHeadFrame.pending = s.pending ∧ s.endHeadFrame.resetRun = s.resetRun ∧ s.endHeadFrame.pins = s.pins ∧
    s.endHeadFrame.trunkCounters = s.trunkCounters ∧ s.endHeadFrame.stations = s.stations ∧
    s.endHeadFrame.admission = s.admission ∧ s.endHeadFrame.uplink = s.uplink ∧ s.endHeadFrame.agent = s.agent ∧
    s.endHeadFrame.stamps = s.stamps ∧ s.endHeadFrame.identity = s.identity := by
  unfold State.endHeadFrame
  (repeat' split) <;> simp

@[simp] theorem expireAnswer_frame (s : State) :
    s.expireAnswer.pending = s.pending ∧ s.expireAnswer.resetRun = s.resetRun ∧ s.expireAnswer.pins = s.pins ∧
    s.expireAnswer.line = s.line ∧ s.expireAnswer.admission = s.admission ∧ s.expireAnswer.queues = s.queues ∧
    s.expireAnswer.uplink = s.uplink ∧ s.expireAnswer.agent = s.agent ∧ s.expireAnswer.stamps = s.stamps ∧
    s.expireAnswer.identity = s.identity := by
  unfold State.expireAnswer
  (repeat' split) <;> simp

@[simp] theorem expireContinue_frame (s : State) :
    s.expireContinue.pending = s.pending ∧ s.expireContinue.resetRun = s.resetRun ∧
    s.expireContinue.pins = s.pins ∧ s.expireContinue.line = s.line ∧ s.expireContinue.admission = s.admission ∧
    s.expireContinue.queues = s.queues ∧ s.expireContinue.uplink = s.uplink ∧ s.expireContinue.agent = s.agent ∧
    s.expireContinue.stamps = s.stamps ∧ s.expireContinue.identity = s.identity := by
  unfold State.expireContinue
  (repeat' split) <;> simp

@[simp] theorem endTurnaround_frame (s : State) :
    s.endTurnaround.pending = s.pending ∧ s.endTurnaround.resetRun = s.resetRun ∧
    s.endTurnaround.pins = s.pins ∧ s.endTurnaround.admission = s.admission ∧
    s.endTurnaround.uplink = s.uplink ∧ s.endTurnaround.agent = s.agent ∧ s.endTurnaround.stamps = s.stamps ∧
    s.endTurnaround.identity = s.identity ∧ s.endTurnaround.led = s.led := by
  unfold State.endTurnaround
  (repeat' split) <;> simp

@[simp] theorem afterGap_frame (s : State) :
    s.afterGap.pending = s.pending ∧ s.afterGap.now = s.now ∧ s.afterGap.resetRun = s.resetRun ∧
    s.afterGap.pins = s.pins ∧ s.afterGap.admission = s.admission ∧ s.afterGap.uplink = s.uplink ∧
    s.afterGap.agent = s.agent ∧ s.afterGap.stamps = s.stamps ∧ s.afterGap.identity = s.identity ∧
    s.afterGap.led = s.led := by
  unfold State.afterGap
  (try dsimp only)
  (repeat' split) <;> simp

@[simp] theorem endGap_frame (s : State) :
    s.endGap.pending = s.pending ∧ s.endGap.resetRun = s.resetRun ∧ s.endGap.pins = s.pins ∧
    s.endGap.admission = s.admission ∧ s.endGap.uplink = s.uplink ∧ s.endGap.agent = s.agent ∧
    s.endGap.stamps = s.stamps ∧ s.endGap.identity = s.identity ∧ s.endGap.led = s.led := by
  unfold State.endGap
  (repeat' split) <;> simp

@[simp] theorem enterRunning_frame (cause : TrunkCause) (s : State) :
    (s.enterRunning cause).pending = s.pending ∧ (s.enterRunning cause).now = s.now ∧
    (s.enterRunning cause).resetRun = s.resetRun ∧ (s.enterRunning cause).pins = s.pins ∧
    (s.enterRunning cause).stations = s.stations ∧ (s.enterRunning cause).admission = s.admission ∧
    (s.enterRunning cause).queues = s.queues ∧ (s.enterRunning cause).uplink = s.uplink ∧
    (s.enterRunning cause).agent = s.agent ∧ (s.enterRunning cause).stamps = s.stamps ∧
    (s.enterRunning cause).identity = s.identity := by
  simp [State.enterRunning]

@[simp] theorem resumeFill_frame (s : State) :
    s.resumeFill.pending = s.pending ∧ s.resumeFill.now = s.now ∧ s.resumeFill.resetRun = s.resetRun ∧
    s.resumeFill.pins = s.pins ∧ s.resumeFill.store = s.store ∧ s.resumeFill.trunkCounters = s.trunkCounters ∧
    s.resumeFill.stations = s.stations ∧ s.resumeFill.admission = s.admission ∧ s.resumeFill.uplink = s.uplink ∧
    s.resumeFill.agent = s.agent ∧ s.resumeFill.notices = s.notices ∧ s.resumeFill.stamps = s.stamps ∧
    s.resumeFill.identity = s.identity ∧ s.resumeFill.led = s.led := by
  simp [State.resumeFill]

@[simp] theorem quietSeen_frame (s : State) :
    s.quietSeen.pending = s.pending ∧ s.quietSeen.now = s.now ∧ s.quietSeen.resetRun = s.resetRun ∧
    s.quietSeen.pins = s.pins ∧ s.quietSeen.admission = s.admission ∧ s.quietSeen.uplink = s.uplink ∧
    s.quietSeen.agent = s.agent ∧ s.quietSeen.stamps = s.stamps ∧ s.quietSeen.identity = s.identity := by
  unfold State.quietSeen
  (repeat' split) <;> simp

@[simp] theorem seeQuiet_frame (s : State) :
    s.seeQuiet.pending = s.pending ∧ s.seeQuiet.resetRun = s.resetRun ∧ s.seeQuiet.pins = s.pins ∧
    s.seeQuiet.admission = s.admission ∧ s.seeQuiet.uplink = s.uplink ∧ s.seeQuiet.agent = s.agent ∧
    s.seeQuiet.stamps = s.stamps ∧ s.seeQuiet.identity = s.identity := by
  unfold State.seeQuiet
  (repeat' split) <;> simp

@[simp] theorem floorPassed_frame (s : State) :
    s.floorPassed.pending = s.pending ∧ s.floorPassed.now = s.now ∧ s.floorPassed.resetRun = s.resetRun ∧
    s.floorPassed.pins = s.pins ∧ s.floorPassed.stations = s.stations ∧ s.floorPassed.admission = s.admission ∧
    s.floorPassed.queues = s.queues ∧ s.floorPassed.uplink = s.uplink ∧ s.floorPassed.agent = s.agent ∧
    s.floorPassed.stamps = s.stamps ∧ s.floorPassed.identity = s.identity ∧ s.floorPassed.led = s.led := by
  unfold State.floorPassed
  (repeat' split) <;> simp

@[simp] theorem expireFloor_frame (s : State) :
    s.expireFloor.pending = s.pending ∧ s.expireFloor.resetRun = s.resetRun ∧ s.expireFloor.pins = s.pins ∧
    s.expireFloor.stations = s.stations ∧ s.expireFloor.admission = s.admission ∧
    s.expireFloor.queues = s.queues ∧ s.expireFloor.uplink = s.uplink ∧ s.expireFloor.agent = s.agent ∧
    s.expireFloor.stamps = s.stamps ∧ s.expireFloor.identity = s.identity ∧ s.expireFloor.led = s.led := by
  unfold State.expireFloor
  (repeat' split) <;> simp

@[simp] theorem stopNow_frame (s : State) :
    s.stopNow.pending = s.pending ∧ s.stopNow.now = s.now ∧ s.stopNow.resetRun = s.resetRun ∧
    s.stopNow.pins = s.pins ∧ s.stopNow.trunkCounters = s.trunkCounters ∧ s.stopNow.stations = s.stations ∧
    s.stopNow.admission = s.admission ∧ s.stopNow.queues = s.queues ∧ s.stopNow.uplink = s.uplink ∧
    s.stopNow.agent = s.agent ∧ s.stopNow.stamps = s.stamps ∧ s.stopNow.identity = s.identity := by
  unfold State.stopNow
  (repeat' split) <;> simp

@[simp] theorem stopTrunk_frame (s : State) :
    s.stopTrunk.pending = s.pending ∧ s.stopTrunk.now = s.now ∧ s.stopTrunk.resetRun = s.resetRun ∧
    s.stopTrunk.pins = s.pins ∧ s.stopTrunk.trunkCounters = s.trunkCounters ∧
    s.stopTrunk.stations = s.stations ∧ s.stopTrunk.admission = s.admission ∧ s.stopTrunk.queues = s.queues ∧
    s.stopTrunk.uplink = s.uplink ∧ s.stopTrunk.agent = s.agent ∧ s.stopTrunk.stamps = s.stamps ∧
    s.stopTrunk.identity = s.identity := by
  unfold State.stopTrunk
  (repeat' split) <;> simp

@[simp] theorem flashLed_frame (s : State) :
    s.flashLed.pending = s.pending ∧ s.flashLed.resetRun = s.resetRun ∧ s.flashLed.pins = s.pins ∧
    s.flashLed.store = s.store ∧ s.flashLed.engine = s.engine ∧ s.flashLed.line = s.line ∧
    s.flashLed.trunkCounters = s.trunkCounters ∧ s.flashLed.stations = s.stations ∧
    s.flashLed.admission = s.admission ∧ s.flashLed.queues = s.queues ∧ s.flashLed.uplink = s.uplink ∧
    s.flashLed.agent = s.agent ∧ s.flashLed.notices = s.notices ∧ s.flashLed.stamps = s.stamps ∧
    s.flashLed.identity = s.identity := by
  unfold State.flashLed
  (try dsimp only)
  (repeat' split) <;> simp

@[simp] theorem beginBurst_frame (fromCol : Bool) (s : State) :
    (s.beginBurst fromCol).pending = s.pending ∧ (s.beginBurst fromCol).now = s.now ∧
    (s.beginBurst fromCol).resetRun = s.resetRun ∧ (s.beginBurst fromCol).pins = s.pins ∧
    (s.beginBurst fromCol).store = s.store ∧ (s.beginBurst fromCol).engine = s.engine ∧
    (s.beginBurst fromCol).trunkCounters = s.trunkCounters ∧ (s.beginBurst fromCol).stations = s.stations ∧
    (s.beginBurst fromCol).admission = s.admission ∧ (s.beginBurst fromCol).queues = s.queues ∧
    (s.beginBurst fromCol).uplink = s.uplink ∧ (s.beginBurst fromCol).agent = s.agent ∧
    (s.beginBurst fromCol).notices = s.notices ∧ (s.beginBurst fromCol).stamps = s.stamps ∧
    (s.beginBurst fromCol).identity = s.identity ∧ (s.beginBurst fromCol).led = s.led :=
  ⟨rfl, rfl, rfl, rfl, rfl, rfl, rfl, rfl, rfl, rfl, rfl, rfl, rfl, rfl, rfl, rfl⟩

@[simp] theorem burstCollision_frame (s : State) :
    s.burstCollision.pending = s.pending ∧ s.burstCollision.now = s.now ∧
    s.burstCollision.resetRun = s.resetRun ∧ s.burstCollision.pins = s.pins ∧
    s.burstCollision.admission = s.admission ∧ s.burstCollision.queues = s.queues ∧
    s.burstCollision.uplink = s.uplink ∧ s.burstCollision.agent = s.agent ∧ s.burstCollision.stamps = s.stamps ∧
    s.burstCollision.identity = s.identity := by
  unfold State.burstCollision
  (repeat' split) <;> simp

@[simp] theorem carrierRises_frame (s : State) :
    s.carrierRises.pending = s.pending ∧ s.carrierRises.now = s.now ∧ s.carrierRises.resetRun = s.resetRun ∧
    s.carrierRises.pins = s.pins ∧ s.carrierRises.store = s.store ∧ s.carrierRises.stations = s.stations ∧
    s.carrierRises.admission = s.admission ∧ s.carrierRises.queues = s.queues ∧
    s.carrierRises.uplink = s.uplink ∧ s.carrierRises.agent = s.agent ∧ s.carrierRises.stamps = s.stamps ∧
    s.carrierRises.identity = s.identity ∧ s.carrierRises.led = s.led := by
  unfold State.carrierRises
  (repeat' split) <;> simp

@[simp] theorem endBurst_frame (b : Burst) (bits : List Bool) (s : State) :
    (s.endBurst b bits).pending = s.pending ∧ (s.endBurst b bits).now = s.now ∧
    (s.endBurst b bits).resetRun = s.resetRun ∧ (s.endBurst b bits).pins = s.pins ∧
    (s.endBurst b bits).uplink = s.uplink ∧ (s.endBurst b bits).stamps = s.stamps ∧
    (s.endBurst b bits).identity = s.identity := by
  simp [State.endBurst]

@[simp] theorem carrierFalls_frame (col : Bool) (bits : List Bool) (s : State) :
    (s.carrierFalls col bits).pending = s.pending ∧ (s.carrierFalls col bits).now = s.now ∧
    (s.carrierFalls col bits).resetRun = s.resetRun ∧ (s.carrierFalls col bits).pins = s.pins ∧
    (s.carrierFalls col bits).uplink = s.uplink ∧ (s.carrierFalls col bits).stamps = s.stamps ∧
    (s.carrierFalls col bits).identity = s.identity := by
  unfold State.carrierFalls
  (repeat' split) <;> simp

@[simp] theorem headCollision_frame (content : TrunkContent) (s : State) :
    (s.headCollision content).pending = s.pending ∧ (s.headCollision content).now = s.now ∧
    (s.headCollision content).resetRun = s.resetRun ∧ (s.headCollision content).pins = s.pins ∧
    (s.headCollision content).stations = s.stations ∧ (s.headCollision content).admission = s.admission ∧
    (s.headCollision content).uplink = s.uplink ∧ (s.headCollision content).agent = s.agent ∧
    (s.headCollision content).stamps = s.stamps ∧ (s.headCollision content).identity = s.identity := by
  unfold State.headCollision
  (repeat' split) <;> simp

@[simp] theorem collisionBurst_frame (s : State) :
    s.collisionBurst.pending = s.pending ∧ s.collisionBurst.now = s.now ∧
    s.collisionBurst.resetRun = s.resetRun ∧ s.collisionBurst.pins = s.pins ∧
    s.collisionBurst.admission = s.admission ∧ s.collisionBurst.queues = s.queues ∧
    s.collisionBurst.uplink = s.uplink ∧ s.collisionBurst.agent = s.agent ∧ s.collisionBurst.stamps = s.stamps ∧
    s.collisionBurst.identity = s.identity := by
  simp [State.collisionBurst]

@[simp] theorem collisionRises_frame (s : State) :
    s.collisionRises.pending = s.pending ∧ s.collisionRises.now = s.now ∧
    s.collisionRises.resetRun = s.resetRun ∧ s.collisionRises.pins = s.pins ∧
    s.collisionRises.admission = s.admission ∧ s.collisionRises.uplink = s.uplink ∧
    s.collisionRises.agent = s.agent ∧ s.collisionRises.stamps = s.stamps ∧
    s.collisionRises.identity = s.identity := by
  unfold State.collisionRises
  (repeat' split) <;> simp

@[simp] theorem burstOverrun_frame (s : State) :
    s.burstOverrun.pending = s.pending ∧ s.burstOverrun.resetRun = s.resetRun ∧ s.burstOverrun.pins = s.pins ∧
    s.burstOverrun.admission = s.admission ∧ s.burstOverrun.queues = s.queues ∧
    s.burstOverrun.uplink = s.uplink ∧ s.burstOverrun.agent = s.agent ∧ s.burstOverrun.stamps = s.stamps ∧
    s.burstOverrun.identity = s.identity := by
  unfold State.burstOverrun
  (repeat' split) <;> simp

@[simp] theorem echoCarrier_frame (cut : Bool) (s : State) :
    (s.echoCarrier cut).pending = s.pending ∧ (s.echoCarrier cut).now = s.now ∧
    (s.echoCarrier cut).resetRun = s.resetRun ∧ (s.echoCarrier cut).pins = s.pins ∧
    (s.echoCarrier cut).store = s.store ∧ (s.echoCarrier cut).stations = s.stations ∧
    (s.echoCarrier cut).admission = s.admission ∧ (s.echoCarrier cut).queues = s.queues ∧
    (s.echoCarrier cut).uplink = s.uplink ∧ (s.echoCarrier cut).agent = s.agent ∧
    (s.echoCarrier cut).stamps = s.stamps ∧ (s.echoCarrier cut).identity = s.identity ∧
    (s.echoCarrier cut).led = s.led := by
  unfold State.echoCarrier
  (repeat' split) <;> simp

@[simp] theorem echoOver_frame (e : Echo) (crs col : Bool) (s : State) :
    (s.echoOver e crs col).pending = s.pending ∧ (s.echoOver e crs col).now = s.now ∧
    (s.echoOver e crs col).resetRun = s.resetRun ∧ (s.echoOver e crs col).pins = s.pins ∧
    (s.echoOver e crs col).admission = s.admission ∧ (s.echoOver e crs col).queues = s.queues ∧
    (s.echoOver e crs col).uplink = s.uplink ∧ (s.echoOver e crs col).agent = s.agent ∧
    (s.echoOver e crs col).stamps = s.stamps ∧ (s.echoOver e crs col).identity = s.identity := by
  unfold State.echoOver
  (try dsimp only)
  (repeat' split) <;> simp

@[simp] theorem endEcho_frame (crs col : Bool) (s : State) :
    (s.endEcho crs col).pending = s.pending ∧ (s.endEcho crs col).resetRun = s.resetRun ∧
    (s.endEcho crs col).admission = s.admission ∧ (s.endEcho crs col).queues = s.queues ∧
    (s.endEcho crs col).uplink = s.uplink ∧ (s.endEcho crs col).agent = s.agent ∧
    (s.endEcho crs col).stamps = s.stamps ∧ (s.endEcho crs col).identity = s.identity := by
  unfold State.endEcho
  (repeat' split) <;> simp

@[simp] theorem beginReset_frame (k : ResetKind) (s : State) :
    (s.beginReset k).pending = s.pending ∧ (s.beginReset k).now = s.now ∧ (s.beginReset k).pins = s.pins ∧
    (s.beginReset k).store = s.store ∧ (s.beginReset k).trunkCounters = s.trunkCounters ∧
    (s.beginReset k).stations = s.stations ∧ (s.beginReset k).admission = s.admission ∧
    (s.beginReset k).queues = s.queues ∧ (s.beginReset k).notices = s.notices ∧
    (s.beginReset k).stamps = s.stamps ∧ (s.beginReset k).identity = s.identity :=
  ⟨rfl, rfl, rfl, rfl, rfl, rfl, rfl, rfl, rfl, rfl, rfl⟩

@[simp] theorem countPorts_frame (f : PortCounters → PortCounters) (s : State) :
    (s.countPorts f).pending = s.pending ∧ (s.countPorts f).now = s.now ∧
    (s.countPorts f).resetRun = s.resetRun ∧ (s.countPorts f).pins = s.pins ∧ (s.countPorts f).store = s.store ∧
    (s.countPorts f).engine = s.engine ∧ (s.countPorts f).line = s.line ∧
    (s.countPorts f).trunkCounters = s.trunkCounters ∧ (s.countPorts f).stations = s.stations ∧
    (s.countPorts f).admission = s.admission ∧ (s.countPorts f).queues = s.queues ∧
    (s.countPorts f).agent = s.agent ∧ (s.countPorts f).notices = s.notices ∧
    (s.countPorts f).stamps = s.stamps ∧ (s.countPorts f).identity = s.identity ∧ (s.countPorts f).led = s.led :=
  ⟨rfl, rfl, rfl, rfl, rfl, rfl, rfl, rfl, rfl, rfl, rfl, rfl, rfl, rfl, rfl, rfl⟩

@[simp] theorem linkRises_frame (s : State) :
    s.linkRises.pending = s.pending ∧ s.linkRises.now = s.now ∧ s.linkRises.resetRun = s.resetRun ∧
    s.linkRises.pins = s.pins ∧ s.linkRises.store = s.store ∧ s.linkRises.engine = s.engine ∧
    s.linkRises.line = s.line ∧ s.linkRises.trunkCounters = s.trunkCounters ∧
    s.linkRises.stations = s.stations ∧ s.linkRises.admission = s.admission ∧ s.linkRises.queues = s.queues ∧
    s.linkRises.agent = s.agent ∧ s.linkRises.notices = s.notices ∧ s.linkRises.stamps = s.stamps ∧
    s.linkRises.identity = s.identity ∧ s.linkRises.led = s.led := by
  unfold State.linkRises
  (repeat' split) <;> simp

@[simp] theorem cutUplink_frame (s : State) :
    s.cutUplink.pending = s.pending ∧ s.cutUplink.now = s.now ∧ s.cutUplink.resetRun = s.resetRun ∧
    s.cutUplink.pins = s.pins ∧ s.cutUplink.store = s.store ∧ s.cutUplink.engine = s.engine ∧
    s.cutUplink.line = s.line ∧ s.cutUplink.trunkCounters = s.trunkCounters ∧
    s.cutUplink.stations = s.stations ∧ s.cutUplink.admission = s.admission ∧ s.cutUplink.queues = s.queues ∧
    s.cutUplink.agent = s.agent ∧ s.cutUplink.notices = s.notices ∧ s.cutUplink.stamps = s.stamps ∧
    s.cutUplink.identity = s.identity ∧ s.cutUplink.led = s.led :=
  ⟨rfl, rfl, rfl, rfl, rfl, rfl, rfl, rfl, rfl, rfl, rfl, rfl, rfl, rfl, rfl, rfl⟩

@[simp] theorem cutAgent_frame (s : State) :
    s.cutAgent.pending = s.pending ∧ s.cutAgent.now = s.now ∧ s.cutAgent.resetRun = s.resetRun ∧
    s.cutAgent.pins = s.pins ∧ s.cutAgent.store = s.store ∧ s.cutAgent.engine = s.engine ∧
    s.cutAgent.line = s.line ∧ s.cutAgent.trunkCounters = s.trunkCounters ∧ s.cutAgent.stations = s.stations ∧
    s.cutAgent.admission = s.admission ∧ s.cutAgent.queues = s.queues ∧ s.cutAgent.notices = s.notices ∧
    s.cutAgent.stamps = s.stamps ∧ s.cutAgent.identity = s.identity ∧ s.cutAgent.led = s.led :=
  ⟨rfl, rfl, rfl, rfl, rfl, rfl, rfl, rfl, rfl, rfl, rfl, rfl, rfl, rfl, rfl⟩

@[simp] theorem cutLease_frame (s : State) :
    s.cutLease.pending = s.pending ∧ s.cutLease.now = s.now ∧ s.cutLease.resetRun = s.resetRun ∧
    s.cutLease.pins = s.pins ∧ s.cutLease.engine = s.engine ∧ s.cutLease.line = s.line ∧
    s.cutLease.trunkCounters = s.trunkCounters ∧ s.cutLease.stations = s.stations ∧
    s.cutLease.admission = s.admission ∧ s.cutLease.queues = s.queues ∧ s.cutLease.uplink = s.uplink ∧
    s.cutLease.stamps = s.stamps ∧ s.cutLease.identity = s.identity ∧ s.cutLease.led = s.led := by
  unfold State.cutLease
  (repeat' split) <;> simp

@[simp] theorem waitingReset_frame (s : State) :
    s.waitingReset.pending = s.pending ∧ s.waitingReset.now = s.now ∧ s.waitingReset.pins = s.pins ∧
    s.waitingReset.store = s.store ∧ s.waitingReset.trunkCounters = s.trunkCounters ∧
    s.waitingReset.stations = s.stations ∧ s.waitingReset.admission = s.admission ∧
    s.waitingReset.queues = s.queues ∧ s.waitingReset.notices = s.notices ∧ s.waitingReset.stamps = s.stamps ∧
    s.waitingReset.identity = s.identity := by
  unfold State.waitingReset
  (repeat' split) <;> simp

@[simp] theorem teardown_frame (s : State) :
    s.teardown.pending = s.pending ∧ s.teardown.now = s.now ∧ s.teardown.pins = s.pins ∧
    s.teardown.trunkCounters = s.trunkCounters ∧ s.teardown.stations = s.stations ∧
    s.teardown.admission = s.admission ∧ s.teardown.stamps = s.stamps ∧ s.teardown.identity = s.identity := by
  simp [State.teardown]

@[simp] theorem linkFalls_frame (s : State) :
    s.linkFalls.pending = s.pending ∧ s.linkFalls.now = s.now ∧ s.linkFalls.pins = s.pins ∧
    s.linkFalls.trunkCounters = s.trunkCounters ∧ s.linkFalls.stations = s.stations ∧
    s.linkFalls.admission = s.admission ∧ s.linkFalls.stamps = s.stamps ∧ s.linkFalls.identity = s.identity := by
  unfold State.linkFalls
  (repeat' split) <;> simp

@[simp] theorem beginReception_frame (groups : List (BitVec 4)) (s : State) :
    (s.beginReception groups).pending = s.pending ∧ (s.beginReception groups).now = s.now ∧
    (s.beginReception groups).resetRun = s.resetRun ∧ (s.beginReception groups).pins = s.pins ∧
    (s.beginReception groups).store = s.store ∧
    (s.beginReception groups).engine = s.engine ∧ (s.beginReception groups).line = s.line ∧
    (s.beginReception groups).trunkCounters = s.trunkCounters ∧ (s.beginReception groups).stations = s.stations ∧
    (s.beginReception groups).admission = s.admission ∧ (s.beginReception groups).queues = s.queues ∧
    (s.beginReception groups).agent = s.agent ∧ (s.beginReception groups).notices = s.notices ∧
    (s.beginReception groups).stamps = s.stamps ∧ (s.beginReception groups).identity = s.identity ∧
    (s.beginReception groups).led = s.led := by
  unfold State.beginReception
  (repeat' split) <;> simp

@[simp] theorem offerManagement_frame (bytes : List Byte) (s : State) :
    (s.offerManagement bytes).pending = s.pending ∧ (s.offerManagement bytes).now = s.now ∧
    (s.offerManagement bytes).resetRun = s.resetRun ∧ (s.offerManagement bytes).pins = s.pins ∧
    (s.offerManagement bytes).store = s.store ∧ (s.offerManagement bytes).engine = s.engine ∧
    (s.offerManagement bytes).line = s.line ∧ (s.offerManagement bytes).trunkCounters = s.trunkCounters ∧
    (s.offerManagement bytes).stations = s.stations ∧ (s.offerManagement bytes).admission = s.admission ∧
    (s.offerManagement bytes).queues = s.queues ∧ (s.offerManagement bytes).notices = s.notices ∧
    (s.offerManagement bytes).stamps = s.stamps ∧ (s.offerManagement bytes).identity = s.identity ∧
    (s.offerManagement bytes).led = s.led := by
  unfold State.offerManagement
  (repeat' split) <;> simp

@[simp] theorem goodFrame_frame (bytes : List Byte) (s : State) :
    (s.goodFrame bytes).pending = s.pending ∧ (s.goodFrame bytes).now = s.now ∧
    (s.goodFrame bytes).resetRun = s.resetRun ∧ (s.goodFrame bytes).pins = s.pins ∧
    (s.goodFrame bytes).store = s.store ∧ (s.goodFrame bytes).engine = s.engine ∧
    (s.goodFrame bytes).trunkCounters = s.trunkCounters ∧ (s.goodFrame bytes).stations = s.stations ∧
    (s.goodFrame bytes).stamps = s.stamps ∧ (s.goodFrame bytes).identity = s.identity ∧
    (s.goodFrame bytes).led = s.led := by
  unfold State.goodFrame
  (repeat' split) <;> simp

@[simp] theorem checkFrame_frame (bytes : List Byte) (rxError : Bool) (s : State) :
    (s.checkFrame bytes rxError).pending = s.pending ∧ (s.checkFrame bytes rxError).now = s.now ∧
    (s.checkFrame bytes rxError).resetRun = s.resetRun ∧ (s.checkFrame bytes rxError).pins = s.pins ∧
    (s.checkFrame bytes rxError).store = s.store ∧ (s.checkFrame bytes rxError).engine = s.engine ∧
    (s.checkFrame bytes rxError).trunkCounters = s.trunkCounters ∧
    (s.checkFrame bytes rxError).stations = s.stations ∧ (s.checkFrame bytes rxError).stamps = s.stamps ∧
    (s.checkFrame bytes rxError).identity = s.identity ∧ (s.checkFrame bytes rxError).led = s.led := by
  unfold State.checkFrame
  (repeat' split) <;> simp

@[simp] theorem completeReception_frame (groups : List (BitVec 4)) (rxError : Bool) (s : State) :
    (s.completeReception groups rxError).pending = s.pending ∧ (s.completeReception groups rxError).now = s.now ∧
    (s.completeReception groups rxError).resetRun = s.resetRun ∧
    (s.completeReception groups rxError).pins = s.pins ∧ (s.completeReception groups rxError).store = s.store ∧
    (s.completeReception groups rxError).engine = s.engine ∧
    (s.completeReception groups rxError).trunkCounters = s.trunkCounters ∧
    (s.completeReception groups rxError).stations = s.stations ∧
    (s.completeReception groups rxError).stamps = s.stamps ∧
    (s.completeReception groups rxError).identity = s.identity ∧ (s.completeReception groups rxError).led = s.led := by
  unfold State.completeReception
  (repeat' split) <;> simp

@[simp] theorem enterGap_frame (s : State) :
    s.enterGap.pending = s.pending ∧ s.enterGap.now = s.now ∧ s.enterGap.resetRun = s.resetRun ∧
    s.enterGap.pins = s.pins ∧ s.enterGap.store = s.store ∧ s.enterGap.engine = s.engine ∧
    s.enterGap.line = s.line ∧ s.enterGap.trunkCounters = s.trunkCounters ∧ s.enterGap.stations = s.stations ∧
    s.enterGap.admission = s.admission ∧ s.enterGap.queues = s.queues ∧ s.enterGap.agent = s.agent ∧
    s.enterGap.notices = s.notices ∧ s.enterGap.stamps = s.stamps ∧ s.enterGap.identity = s.identity ∧
    s.enterGap.led = s.led :=
  ⟨rfl, rfl, rfl, rfl, rfl, rfl, rfl, rfl, rfl, rfl, rfl, rfl, rfl, rfl, rfl, rfl⟩

@[simp] theorem responseSent_frame (s : State) :
    s.responseSent.pending = s.pending ∧ s.responseSent.now = s.now ∧ s.responseSent.pins = s.pins ∧
    s.responseSent.store = s.store ∧ s.responseSent.trunkCounters = s.trunkCounters ∧
    s.responseSent.stations = s.stations ∧ s.responseSent.admission = s.admission ∧
    s.responseSent.queues = s.queues ∧ s.responseSent.notices = s.notices ∧ s.responseSent.stamps = s.stamps ∧
    s.responseSent.identity = s.identity := by
  unfold State.responseSent
  (try dsimp only)
  (repeat' split) <;> simp

@[simp] theorem noticeSent_frame (number : BitVec 16) (s : State) :
    (s.noticeSent number).pending = s.pending ∧ (s.noticeSent number).now = s.now ∧
    (s.noticeSent number).resetRun = s.resetRun ∧ (s.noticeSent number).pins = s.pins ∧
    (s.noticeSent number).store = s.store ∧ (s.noticeSent number).engine = s.engine ∧
    (s.noticeSent number).line = s.line ∧ (s.noticeSent number).trunkCounters = s.trunkCounters ∧
    (s.noticeSent number).stations = s.stations ∧ (s.noticeSent number).admission = s.admission ∧
    (s.noticeSent number).queues = s.queues ∧ (s.noticeSent number).agent = s.agent ∧
    (s.noticeSent number).stamps = s.stamps ∧ (s.noticeSent number).identity = s.identity ∧
    (s.noticeSent number).led = s.led :=
  ⟨rfl, rfl, rfl, rfl, rfl, rfl, rfl, rfl, rfl, rfl, rfl, rfl, rfl, rfl, rfl⟩

@[simp] theorem forwardedSent_frame (s : State) :
    s.forwardedSent.pending = s.pending ∧ s.forwardedSent.now = s.now ∧ s.forwardedSent.resetRun = s.resetRun ∧
    s.forwardedSent.pins = s.pins ∧ s.forwardedSent.store = s.store ∧ s.forwardedSent.engine = s.engine ∧
    s.forwardedSent.line = s.line ∧ s.forwardedSent.trunkCounters = s.trunkCounters ∧
    s.forwardedSent.stations = s.stations ∧ s.forwardedSent.admission = s.admission ∧
    s.forwardedSent.agent = s.agent ∧ s.forwardedSent.notices = s.notices ∧ s.forwardedSent.stamps = s.stamps ∧
    s.forwardedSent.identity = s.identity ∧ s.forwardedSent.led = s.led :=
  ⟨rfl, rfl, rfl, rfl, rfl, rfl, rfl, rfl, rfl, rfl, rfl, rfl, rfl, rfl, rfl⟩

@[simp] theorem sourceSent_frame (source : UplinkSource) (s : State) :
    (s.sourceSent source).pending = s.pending ∧ (s.sourceSent source).now = s.now ∧
    (s.sourceSent source).pins = s.pins ∧ (s.sourceSent source).store = s.store ∧
    (s.sourceSent source).trunkCounters = s.trunkCounters ∧ (s.sourceSent source).stations = s.stations ∧
    (s.sourceSent source).admission = s.admission ∧ (s.sourceSent source).stamps = s.stamps ∧
    (s.sourceSent source).identity = s.identity := by
  unfold State.sourceSent
  (repeat' split) <;> simp

@[simp] theorem endTransmission_frame (s : State) :
    s.endTransmission.pending = s.pending ∧ s.endTransmission.pins = s.pins ∧
    s.endTransmission.store = s.store ∧ s.endTransmission.trunkCounters = s.trunkCounters ∧
    s.endTransmission.stations = s.stations ∧ s.endTransmission.admission = s.admission ∧
    s.endTransmission.stamps = s.stamps ∧ s.endTransmission.identity = s.identity := by
  unfold State.endTransmission
  (repeat' split) <;> simp

@[simp] theorem endUplinkGap_frame (s : State) :
    s.endUplinkGap.pending = s.pending ∧ s.endUplinkGap.resetRun = s.resetRun ∧ s.endUplinkGap.pins = s.pins ∧
    s.endUplinkGap.store = s.store ∧ s.endUplinkGap.engine = s.engine ∧ s.endUplinkGap.line = s.line ∧
    s.endUplinkGap.trunkCounters = s.trunkCounters ∧ s.endUplinkGap.stations = s.stations ∧
    s.endUplinkGap.admission = s.admission ∧ s.endUplinkGap.queues = s.queues ∧ s.endUplinkGap.agent = s.agent ∧
    s.endUplinkGap.notices = s.notices ∧ s.endUplinkGap.stamps = s.stamps ∧
    s.endUplinkGap.identity = s.identity ∧ s.endUplinkGap.led = s.led := by
  unfold State.endUplinkGap
  (repeat' split) <;> simp

@[simp] theorem applyPower_frame (s : State) :
    s.applyPower.pending = s.pending ∧ s.applyPower.now = s.now ∧ s.applyPower.pins = s.pins ∧
    s.applyPower.store = s.store ∧ s.applyPower.trunkCounters = s.trunkCounters ∧
    s.applyPower.stations = s.stations ∧ s.applyPower.admission = s.admission ∧ s.applyPower.queues = s.queues ∧
    s.applyPower.notices = s.notices ∧ s.applyPower.stamps = s.stamps ∧ s.applyPower.identity = s.identity := by
  unfold State.applyPower
  (repeat' split) <;> simp

@[simp] theorem assertRstn_frame (s : State) :
    s.assertRstn.pending = s.pending ∧ s.assertRstn.now = s.now ∧ s.assertRstn.pins = s.pins ∧
    s.assertRstn.store = s.store ∧ s.assertRstn.trunkCounters = s.trunkCounters ∧
    s.assertRstn.stations = s.stations ∧ s.assertRstn.admission = s.admission ∧ s.assertRstn.queues = s.queues ∧
    s.assertRstn.notices = s.notices ∧ s.assertRstn.stamps = s.stamps ∧ s.assertRstn.identity = s.identity := by
  unfold State.assertRstn
  (repeat' split) <;> simp

@[simp] theorem releaseRstn_frame (s : State) :
    s.releaseRstn.pending = s.pending ∧ s.releaseRstn.now = s.now ∧ s.releaseRstn.pins = s.pins ∧
    s.releaseRstn.store = s.store ∧ s.releaseRstn.engine = s.engine ∧ s.releaseRstn.line = s.line ∧
    s.releaseRstn.trunkCounters = s.trunkCounters ∧ s.releaseRstn.stations = s.stations ∧
    s.releaseRstn.admission = s.admission ∧ s.releaseRstn.queues = s.queues ∧ s.releaseRstn.uplink = s.uplink ∧
    s.releaseRstn.agent = s.agent ∧ s.releaseRstn.notices = s.notices ∧ s.releaseRstn.stamps = s.stamps ∧
    s.releaseRstn.identity = s.identity ∧ s.releaseRstn.led = s.led := by
  unfold State.releaseRstn
  (repeat' split) <;> simp

@[simp] theorem afterReset_frame (k : ResetKind) (s : State) :
    (s.afterReset k).pending = s.pending ∧ (s.afterReset k).now = s.now ∧ (s.afterReset k).pins = s.pins :=
  ⟨rfl, rfl, rfl⟩

@[simp] theorem resetCarrier_frame (crs : Bool) (s : State) :
    (s.resetCarrier crs).pending = s.pending ∧ (s.resetCarrier crs).now = s.now ∧
    (s.resetCarrier crs).resetRun = s.resetRun ∧ (s.resetCarrier crs).pins = s.pins ∧
    (s.resetCarrier crs).store = s.store ∧ (s.resetCarrier crs).stations = s.stations ∧
    (s.resetCarrier crs).admission = s.admission ∧ (s.resetCarrier crs).queues = s.queues ∧
    (s.resetCarrier crs).uplink = s.uplink ∧ (s.resetCarrier crs).agent = s.agent ∧
    (s.resetCarrier crs).stamps = s.stamps ∧ (s.resetCarrier crs).identity = s.identity ∧
    (s.resetCarrier crs).led = s.led := by
  unfold State.resetCarrier
  (repeat' split) <;> simp

@[simp] theorem resetLink_frame (link : Bool) (s : State) :
    (s.resetLink link).pending = s.pending ∧ (s.resetLink link).now = s.now ∧ (s.resetLink link).pins = s.pins ∧
    (s.resetLink link).trunkCounters = s.trunkCounters ∧ (s.resetLink link).stations = s.stations ∧
    (s.resetLink link).admission = s.admission ∧ (s.resetLink link).stamps = s.stamps ∧
    (s.resetLink link).identity = s.identity := by
  unfold State.resetLink
  (repeat' split) <;> simp

@[simp] theorem finishReset_frame (k : ResetKind) (crs link : Bool) (s : State) :
    (s.finishReset k crs link).pending = s.pending ∧ (s.finishReset k crs link).now = s.now := by
  simp [State.finishReset]

@[simp] theorem endReset_frame (crs link : Bool) (s : State) :
    (s.endReset crs link).pending = s.pending := by
  unfold State.endReset
  (repeat' split) <;> simp

end Sys2Proof.Machine
end

