-- ==== Sys2Proof/Laws/Answers.lean ====
section
/-! SUPPORT. The frame of each request: the fields of the state its answer never changes. -/

namespace Sys2Proof.Machine

@[simp] theorem answerClaim_frame (q : Request) (s : State) :
    (answerClaim q s).state.pending = s.pending ∧ (answerClaim q s).state.now = s.now ∧
    (answerClaim q s).state.resetRun = s.resetRun ∧ (answerClaim q s).state.pins = s.pins ∧
    (answerClaim q s).state.store = s.store ∧ (answerClaim q s).state.engine = s.engine ∧
    (answerClaim q s).state.line = s.line ∧ (answerClaim q s).state.trunkCounters = s.trunkCounters ∧
    (answerClaim q s).state.stations = s.stations ∧ (answerClaim q s).state.admission = s.admission ∧
    (answerClaim q s).state.queues = s.queues ∧ (answerClaim q s).state.uplink = s.uplink ∧
    (answerClaim q s).state.notices = s.notices ∧ (answerClaim q s).state.stamps = s.stamps ∧
    (answerClaim q s).state.identity = s.identity ∧ (answerClaim q s).state.led = s.led := by
  unfold answerClaim
  (try dsimp only)
  (repeat' split) <;> simp [okWith, refuse, refuseRange, grantLease]

@[simp] theorem answerRelease_frame (q : Request) (s : State) :
    (answerRelease q s).state.pending = s.pending ∧ (answerRelease q s).state.now = s.now ∧
    (answerRelease q s).state.resetRun = s.resetRun ∧ (answerRelease q s).state.pins = s.pins ∧
    (answerRelease q s).state.engine = s.engine ∧ (answerRelease q s).state.line = s.line ∧
    (answerRelease q s).state.trunkCounters = s.trunkCounters ∧
    (answerRelease q s).state.stations = s.stations ∧ (answerRelease q s).state.admission = s.admission ∧
    (answerRelease q s).state.queues = s.queues ∧ (answerRelease q s).state.uplink = s.uplink ∧
    (answerRelease q s).state.notices = s.notices ∧ (answerRelease q s).state.stamps = s.stamps ∧
    (answerRelease q s).state.identity = s.identity ∧ (answerRelease q s).state.led = s.led := by
  unfold answerRelease
  (repeat' split) <;> simp [okWith, refuse]

@[simp] theorem answerResetDevice_frame (q : Request) (s : State) :
    (answerResetDevice q s).state.pending = s.pending ∧ (answerResetDevice q s).state.now = s.now ∧
    (answerResetDevice q s).state.resetRun = s.resetRun ∧ (answerResetDevice q s).state.pins = s.pins ∧
    (answerResetDevice q s).state.store = s.store ∧ (answerResetDevice q s).state.engine = s.engine ∧
    (answerResetDevice q s).state.line = s.line ∧
    (answerResetDevice q s).state.trunkCounters = s.trunkCounters ∧
    (answerResetDevice q s).state.stations = s.stations ∧
    (answerResetDevice q s).state.admission = s.admission ∧ (answerResetDevice q s).state.queues = s.queues ∧
    (answerResetDevice q s).state.uplink = s.uplink ∧ (answerResetDevice q s).state.agent = s.agent ∧
    (answerResetDevice q s).state.notices = s.notices ∧ (answerResetDevice q s).state.stamps = s.stamps ∧
    (answerResetDevice q s).state.identity = s.identity ∧ (answerResetDevice q s).state.led = s.led := by
  unfold answerResetDevice
  simp [okWith]

@[simp] theorem answerReadRound_frame (q : Request) (s : State) :
    (answerReadRound q s).state.pending = s.pending ∧ (answerReadRound q s).state.now = s.now ∧
    (answerReadRound q s).state.resetRun = s.resetRun ∧ (answerReadRound q s).state.pins = s.pins ∧
    (answerReadRound q s).state.store = s.store ∧ (answerReadRound q s).state.engine = s.engine ∧
    (answerReadRound q s).state.line = s.line ∧ (answerReadRound q s).state.trunkCounters = s.trunkCounters ∧
    (answerReadRound q s).state.stations = s.stations ∧ (answerReadRound q s).state.admission = s.admission ∧
    (answerReadRound q s).state.queues = s.queues ∧ (answerReadRound q s).state.uplink = s.uplink ∧
    (answerReadRound q s).state.agent = s.agent ∧ (answerReadRound q s).state.notices = s.notices ∧
    (answerReadRound q s).state.stamps = s.stamps ∧ (answerReadRound q s).state.identity = s.identity ∧
    (answerReadRound q s).state.led = s.led := by
  unfold answerReadRound
  (try dsimp only)
  (repeat' split) <;> simp [okWith, refuse, refuseRange]

@[simp] theorem answerWriteRound_frame (q : Request) (s : State) :
    (answerWriteRound q s).state.pending = s.pending ∧ (answerWriteRound q s).state.now = s.now ∧
    (answerWriteRound q s).state.resetRun = s.resetRun ∧ (answerWriteRound q s).state.pins = s.pins ∧
    (answerWriteRound q s).state.engine = s.engine ∧ (answerWriteRound q s).state.line = s.line ∧
    (answerWriteRound q s).state.trunkCounters = s.trunkCounters ∧
    (answerWriteRound q s).state.stations = s.stations ∧ (answerWriteRound q s).state.admission = s.admission ∧
    (answerWriteRound q s).state.queues = s.queues ∧ (answerWriteRound q s).state.uplink = s.uplink ∧
    (answerWriteRound q s).state.agent = s.agent ∧ (answerWriteRound q s).state.notices = s.notices ∧
    (answerWriteRound q s).state.stamps = s.stamps ∧ (answerWriteRound q s).state.identity = s.identity ∧
    (answerWriteRound q s).state.led = s.led := by
  unfold answerWriteRound
  (try dsimp only)
  (repeat' split) <;> simp [okWith, refuse, refuseRange]

@[simp] theorem answerSetRoundParams_frame (q : Request) (s : State) :
    (answerSetRoundParams q s).state.pending = s.pending ∧ (answerSetRoundParams q s).state.now = s.now ∧
    (answerSetRoundParams q s).state.resetRun = s.resetRun ∧ (answerSetRoundParams q s).state.pins = s.pins ∧
    (answerSetRoundParams q s).state.engine = s.engine ∧ (answerSetRoundParams q s).state.line = s.line ∧
    (answerSetRoundParams q s).state.trunkCounters = s.trunkCounters ∧
    (answerSetRoundParams q s).state.stations = s.stations ∧
    (answerSetRoundParams q s).state.admission = s.admission ∧
    (answerSetRoundParams q s).state.queues = s.queues ∧ (answerSetRoundParams q s).state.uplink = s.uplink ∧
    (answerSetRoundParams q s).state.agent = s.agent ∧ (answerSetRoundParams q s).state.notices = s.notices ∧
    (answerSetRoundParams q s).state.stamps = s.stamps ∧
    (answerSetRoundParams q s).state.identity = s.identity ∧ (answerSetRoundParams q s).state.led = s.led := by
  unfold answerSetRoundParams
  (try dsimp only)
  (repeat' split) <;> simp [okWith, refuse, refuseRange]

@[simp] theorem answerCommitRound_frame (q : Request) (s : State) :
    (answerCommitRound q s).state.pending = s.pending ∧ (answerCommitRound q s).state.now = s.now ∧
    (answerCommitRound q s).state.resetRun = s.resetRun ∧ (answerCommitRound q s).state.pins = s.pins ∧
    (answerCommitRound q s).state.engine = s.engine ∧ (answerCommitRound q s).state.line = s.line ∧
    (answerCommitRound q s).state.trunkCounters = s.trunkCounters ∧
    (answerCommitRound q s).state.stations = s.stations ∧
    (answerCommitRound q s).state.admission = s.admission ∧ (answerCommitRound q s).state.queues = s.queues ∧
    (answerCommitRound q s).state.uplink = s.uplink ∧ (answerCommitRound q s).state.agent = s.agent ∧
    (answerCommitRound q s).state.stamps = s.stamps ∧ (answerCommitRound q s).state.identity = s.identity ∧
    (answerCommitRound q s).state.led = s.led := by
  unfold answerCommitRound
  (repeat' split) <;> simp [okWith, refuse]

@[simp] theorem answerDisarmRound_frame (q : Request) (s : State) :
    (answerDisarmRound q s).state.pending = s.pending ∧ (answerDisarmRound q s).state.now = s.now ∧
    (answerDisarmRound q s).state.resetRun = s.resetRun ∧ (answerDisarmRound q s).state.pins = s.pins ∧
    (answerDisarmRound q s).state.engine = s.engine ∧ (answerDisarmRound q s).state.line = s.line ∧
    (answerDisarmRound q s).state.trunkCounters = s.trunkCounters ∧
    (answerDisarmRound q s).state.stations = s.stations ∧
    (answerDisarmRound q s).state.admission = s.admission ∧ (answerDisarmRound q s).state.queues = s.queues ∧
    (answerDisarmRound q s).state.uplink = s.uplink ∧ (answerDisarmRound q s).state.agent = s.agent ∧
    (answerDisarmRound q s).state.notices = s.notices ∧ (answerDisarmRound q s).state.stamps = s.stamps ∧
    (answerDisarmRound q s).state.identity = s.identity ∧ (answerDisarmRound q s).state.led = s.led := by
  unfold answerDisarmRound
  (repeat' split) <;> simp [okWith, refuse]

@[simp] theorem answerReadStations_frame (q : Request) (s : State) :
    (answerReadStations q s).state.pending = s.pending ∧ (answerReadStations q s).state.now = s.now ∧
    (answerReadStations q s).state.resetRun = s.resetRun ∧ (answerReadStations q s).state.pins = s.pins ∧
    (answerReadStations q s).state.store = s.store ∧ (answerReadStations q s).state.engine = s.engine ∧
    (answerReadStations q s).state.line = s.line ∧
    (answerReadStations q s).state.trunkCounters = s.trunkCounters ∧
    (answerReadStations q s).state.stations = s.stations ∧
    (answerReadStations q s).state.admission = s.admission ∧ (answerReadStations q s).state.queues = s.queues ∧
    (answerReadStations q s).state.uplink = s.uplink ∧ (answerReadStations q s).state.agent = s.agent ∧
    (answerReadStations q s).state.notices = s.notices ∧ (answerReadStations q s).state.stamps = s.stamps ∧
    (answerReadStations q s).state.identity = s.identity ∧ (answerReadStations q s).state.led = s.led := by
  unfold answerReadStations
  (try dsimp only)
  (repeat' split) <;> simp [okWith, refuse, refuseRange]

@[simp] theorem answerEnrolStation_frame (q : Request) (s : State) :
    (answerEnrolStation q s).state.pending = s.pending ∧ (answerEnrolStation q s).state.now = s.now ∧
    (answerEnrolStation q s).state.resetRun = s.resetRun ∧ (answerEnrolStation q s).state.pins = s.pins ∧
    (answerEnrolStation q s).state.store = s.store ∧ (answerEnrolStation q s).state.engine = s.engine ∧
    (answerEnrolStation q s).state.line = s.line ∧
    (answerEnrolStation q s).state.trunkCounters = s.trunkCounters ∧
    (answerEnrolStation q s).state.admission = s.admission ∧ (answerEnrolStation q s).state.queues = s.queues ∧
    (answerEnrolStation q s).state.uplink = s.uplink ∧ (answerEnrolStation q s).state.agent = s.agent ∧
    (answerEnrolStation q s).state.stamps = s.stamps ∧ (answerEnrolStation q s).state.identity = s.identity ∧
    (answerEnrolStation q s).state.led = s.led := by
  unfold answerEnrolStation
  (try dsimp only)
  (repeat' split) <;> simp [okWith, refuse, refuseRange]

@[simp] theorem answerWithdrawStation_frame (q : Request) (s : State) :
    (answerWithdrawStation q s).state.pending = s.pending ∧ (answerWithdrawStation q s).state.now = s.now ∧
    (answerWithdrawStation q s).state.resetRun = s.resetRun ∧ (answerWithdrawStation q s).state.pins = s.pins ∧
    (answerWithdrawStation q s).state.store = s.store ∧ (answerWithdrawStation q s).state.engine = s.engine ∧
    (answerWithdrawStation q s).state.line = s.line ∧
    (answerWithdrawStation q s).state.trunkCounters = s.trunkCounters ∧
    (answerWithdrawStation q s).state.admission = s.admission ∧
    (answerWithdrawStation q s).state.queues = s.queues ∧ (answerWithdrawStation q s).state.uplink = s.uplink ∧
    (answerWithdrawStation q s).state.agent = s.agent ∧ (answerWithdrawStation q s).state.stamps = s.stamps ∧
    (answerWithdrawStation q s).state.identity = s.identity ∧ (answerWithdrawStation q s).state.led = s.led := by
  unfold answerWithdrawStation
  (try dsimp only)
  (repeat' split) <;> simp [okWith, refuse, refuseRange]

@[simp] theorem answerReadRules_frame (q : Request) (s : State) :
    (answerReadRules q s).state.pending = s.pending ∧ (answerReadRules q s).state.now = s.now ∧
    (answerReadRules q s).state.resetRun = s.resetRun ∧ (answerReadRules q s).state.pins = s.pins ∧
    (answerReadRules q s).state.store = s.store ∧ (answerReadRules q s).state.engine = s.engine ∧
    (answerReadRules q s).state.line = s.line ∧ (answerReadRules q s).state.trunkCounters = s.trunkCounters ∧
    (answerReadRules q s).state.stations = s.stations ∧ (answerReadRules q s).state.admission = s.admission ∧
    (answerReadRules q s).state.queues = s.queues ∧ (answerReadRules q s).state.uplink = s.uplink ∧
    (answerReadRules q s).state.agent = s.agent ∧ (answerReadRules q s).state.notices = s.notices ∧
    (answerReadRules q s).state.stamps = s.stamps ∧ (answerReadRules q s).state.identity = s.identity ∧
    (answerReadRules q s).state.led = s.led := by
  unfold answerReadRules
  (try dsimp only)
  (repeat' split) <;> simp [okWith, refuse, refuseRange]

@[simp] theorem answerWriteRules_frame (q : Request) (s : State) :
    (answerWriteRules q s).state.pending = s.pending ∧ (answerWriteRules q s).state.now = s.now ∧
    (answerWriteRules q s).state.resetRun = s.resetRun ∧ (answerWriteRules q s).state.pins = s.pins ∧
    (answerWriteRules q s).state.store = s.store ∧ (answerWriteRules q s).state.engine = s.engine ∧
    (answerWriteRules q s).state.line = s.line ∧ (answerWriteRules q s).state.trunkCounters = s.trunkCounters ∧
    (answerWriteRules q s).state.stations = s.stations ∧ (answerWriteRules q s).state.queues = s.queues ∧
    (answerWriteRules q s).state.uplink = s.uplink ∧ (answerWriteRules q s).state.agent = s.agent ∧
    (answerWriteRules q s).state.notices = s.notices ∧ (answerWriteRules q s).state.stamps = s.stamps ∧
    (answerWriteRules q s).state.identity = s.identity ∧ (answerWriteRules q s).state.led = s.led := by
  unfold answerWriteRules
  (try dsimp only)
  (repeat' split) <;> simp [okWith, refuse, refuseRange]

@[simp] theorem answerSetDefaults_frame (q : Request) (s : State) :
    (answerSetDefaults q s).state.pending = s.pending ∧ (answerSetDefaults q s).state.now = s.now ∧
    (answerSetDefaults q s).state.resetRun = s.resetRun ∧ (answerSetDefaults q s).state.pins = s.pins ∧
    (answerSetDefaults q s).state.store = s.store ∧ (answerSetDefaults q s).state.engine = s.engine ∧
    (answerSetDefaults q s).state.line = s.line ∧
    (answerSetDefaults q s).state.trunkCounters = s.trunkCounters ∧
    (answerSetDefaults q s).state.stations = s.stations ∧ (answerSetDefaults q s).state.queues = s.queues ∧
    (answerSetDefaults q s).state.uplink = s.uplink ∧ (answerSetDefaults q s).state.agent = s.agent ∧
    (answerSetDefaults q s).state.notices = s.notices ∧ (answerSetDefaults q s).state.stamps = s.stamps ∧
    (answerSetDefaults q s).state.identity = s.identity ∧ (answerSetDefaults q s).state.led = s.led := by
  unfold answerSetDefaults
  (repeat' split) <;> simp [okWith, refuse, refuseRange]

@[simp] theorem answerReadQueues_frame (q : Request) (s : State) :
    (answerReadQueues q s).state.pending = s.pending ∧ (answerReadQueues q s).state.now = s.now ∧
    (answerReadQueues q s).state.resetRun = s.resetRun ∧ (answerReadQueues q s).state.pins = s.pins ∧
    (answerReadQueues q s).state.store = s.store ∧ (answerReadQueues q s).state.engine = s.engine ∧
    (answerReadQueues q s).state.line = s.line ∧ (answerReadQueues q s).state.trunkCounters = s.trunkCounters ∧
    (answerReadQueues q s).state.stations = s.stations ∧ (answerReadQueues q s).state.admission = s.admission ∧
    (answerReadQueues q s).state.queues = s.queues ∧ (answerReadQueues q s).state.uplink = s.uplink ∧
    (answerReadQueues q s).state.agent = s.agent ∧ (answerReadQueues q s).state.notices = s.notices ∧
    (answerReadQueues q s).state.stamps = s.stamps ∧ (answerReadQueues q s).state.identity = s.identity ∧
    (answerReadQueues q s).state.led = s.led := by
  unfold answerReadQueues
  simp [okWith]

@[simp] theorem answerSetQueueLimits_frame (q : Request) (s : State) :
    (answerSetQueueLimits q s).state.pending = s.pending ∧ (answerSetQueueLimits q s).state.now = s.now ∧
    (answerSetQueueLimits q s).state.resetRun = s.resetRun ∧ (answerSetQueueLimits q s).state.pins = s.pins ∧
    (answerSetQueueLimits q s).state.store = s.store ∧ (answerSetQueueLimits q s).state.engine = s.engine ∧
    (answerSetQueueLimits q s).state.line = s.line ∧
    (answerSetQueueLimits q s).state.trunkCounters = s.trunkCounters ∧
    (answerSetQueueLimits q s).state.stations = s.stations ∧
    (answerSetQueueLimits q s).state.admission = s.admission ∧
    (answerSetQueueLimits q s).state.uplink = s.uplink ∧ (answerSetQueueLimits q s).state.agent = s.agent ∧
    (answerSetQueueLimits q s).state.notices = s.notices ∧ (answerSetQueueLimits q s).state.stamps = s.stamps ∧
    (answerSetQueueLimits q s).state.identity = s.identity ∧ (answerSetQueueLimits q s).state.led = s.led := by
  unfold answerSetQueueLimits
  (try dsimp only)
  (repeat' split) <;> simp [okWith, refuse, refuseRange]

@[simp] theorem answerFlushQueue_frame (q : Request) (s : State) :
    (answerFlushQueue q s).state.pending = s.pending ∧ (answerFlushQueue q s).state.now = s.now ∧
    (answerFlushQueue q s).state.resetRun = s.resetRun ∧ (answerFlushQueue q s).state.pins = s.pins ∧
    (answerFlushQueue q s).state.store = s.store ∧ (answerFlushQueue q s).state.engine = s.engine ∧
    (answerFlushQueue q s).state.line = s.line ∧ (answerFlushQueue q s).state.trunkCounters = s.trunkCounters ∧
    (answerFlushQueue q s).state.stations = s.stations ∧ (answerFlushQueue q s).state.admission = s.admission ∧
    (answerFlushQueue q s).state.uplink = s.uplink ∧ (answerFlushQueue q s).state.agent = s.agent ∧
    (answerFlushQueue q s).state.notices = s.notices ∧ (answerFlushQueue q s).state.stamps = s.stamps ∧
    (answerFlushQueue q s).state.identity = s.identity ∧ (answerFlushQueue q s).state.led = s.led := by
  unfold answerFlushQueue
  (try dsimp only)
  (repeat' split) <;> simp [okWith, refuse, refuseRange]

@[simp] theorem answerReadNotices_frame (q : Request) (s : State) :
    (answerReadNotices q s).state.pending = s.pending ∧ (answerReadNotices q s).state.now = s.now ∧
    (answerReadNotices q s).state.resetRun = s.resetRun ∧ (answerReadNotices q s).state.pins = s.pins ∧
    (answerReadNotices q s).state.store = s.store ∧ (answerReadNotices q s).state.engine = s.engine ∧
    (answerReadNotices q s).state.line = s.line ∧
    (answerReadNotices q s).state.trunkCounters = s.trunkCounters ∧
    (answerReadNotices q s).state.stations = s.stations ∧
    (answerReadNotices q s).state.admission = s.admission ∧ (answerReadNotices q s).state.queues = s.queues ∧
    (answerReadNotices q s).state.uplink = s.uplink ∧ (answerReadNotices q s).state.agent = s.agent ∧
    (answerReadNotices q s).state.notices = s.notices ∧ (answerReadNotices q s).state.stamps = s.stamps ∧
    (answerReadNotices q s).state.identity = s.identity ∧ (answerReadNotices q s).state.led = s.led := by
  unfold answerReadNotices
  simp [okWith]

@[simp] theorem answerAckNotices_frame (q : Request) (s : State) :
    (answerAckNotices q s).state.pending = s.pending ∧ (answerAckNotices q s).state.now = s.now ∧
    (answerAckNotices q s).state.resetRun = s.resetRun ∧ (answerAckNotices q s).state.pins = s.pins ∧
    (answerAckNotices q s).state.store = s.store ∧ (answerAckNotices q s).state.engine = s.engine ∧
    (answerAckNotices q s).state.line = s.line ∧ (answerAckNotices q s).state.trunkCounters = s.trunkCounters ∧
    (answerAckNotices q s).state.stations = s.stations ∧ (answerAckNotices q s).state.admission = s.admission ∧
    (answerAckNotices q s).state.queues = s.queues ∧ (answerAckNotices q s).state.uplink = s.uplink ∧
    (answerAckNotices q s).state.agent = s.agent ∧ (answerAckNotices q s).state.stamps = s.stamps ∧
    (answerAckNotices q s).state.identity = s.identity ∧ (answerAckNotices q s).state.led = s.led := by
  unfold answerAckNotices
  simp [okWith]

theorem counterSet_frame (code station : Nat) (s : State) (c : CounterSet) (h : counterSet code station s = some c) :
    c.cleared.pending = s.pending ∧ c.cleared.now = s.now ∧ c.cleared.resetRun = s.resetRun ∧
    c.cleared.pins = s.pins ∧ c.cleared.store = s.store ∧ c.cleared.engine = s.engine ∧ c.cleared.line = s.line ∧
    c.cleared.identity = s.identity ∧ c.cleared.led = s.led ∧ c.cleared.agent.input = s.agent.input ∧
    c.cleared.agent.output = s.agent.output ∧ c.cleared.agent.sessions = s.agent.sessions ∧
    c.cleared.agent.lease = s.agent.lease ∧ c.cleared.agent.softReset = s.agent.softReset ∧
    c.cleared.uplink.link = s.uplink.link ∧ c.cleared.uplink.receiving = s.uplink.receiving ∧
    c.cleared.uplink.tx = s.uplink.tx := by
  unfold counterSet at h
  dsimp only at h
  split at h
  case h_3 =>
    cases hs : s.station? station with
    | none => simp [hs] at h
    | some r => simp only [hs, Option.map_some, Option.some.injEq] at h; subst h; simp
  case h_8 => simp at h
  all_goals (simp only [Option.some.injEq] at h; subst h; simp)

/-- READ_COUNTERS leaves the state, or the state with the set cleared (R198, R199). -/
theorem answerCounters_state (q : Request) (s : State) :
    (answerCounters q s).state = s ∨
      ∃ c, counterSet (numAt q.body 0) (numAt q.body 1) s = some c ∧ (answerCounters q s).state = c.cleared := by
  unfold answerCounters
  dsimp only
  split
  · exact .inl rfl
  · split
    · exact .inl rfl
    · split
      · exact .inl rfl
      · split
        · exact .inl rfl
        · rename_i c hc
          simp only [okWith]
          split
          · exact .inr ⟨c, hc, rfl⟩
          · exact .inl rfl

@[simp] theorem answerCounters_frame (q : Request) (s : State) :
    (answerCounters q s).state.pending = s.pending ∧ (answerCounters q s).state.now = s.now ∧
    (answerCounters q s).state.resetRun = s.resetRun ∧ (answerCounters q s).state.pins = s.pins ∧
    (answerCounters q s).state.store = s.store ∧ (answerCounters q s).state.engine = s.engine ∧
    (answerCounters q s).state.line = s.line ∧ (answerCounters q s).state.identity = s.identity ∧
    (answerCounters q s).state.led = s.led := by
  obtain h | ⟨c, hc, h⟩ := answerCounters_state q s
  · simp [h]
  · have := counterSet_frame _ _ _ _ hc
    simp [h, this]

@[simp] theorem answerIdentify_frame (q : Request) (s : State) :
    (answerIdentify q s).state.pending = s.pending ∧ (answerIdentify q s).state.now = s.now ∧
    (answerIdentify q s).state.resetRun = s.resetRun ∧ (answerIdentify q s).state.pins = s.pins ∧
    (answerIdentify q s).state.store = s.store ∧ (answerIdentify q s).state.engine = s.engine ∧
    (answerIdentify q s).state.line = s.line ∧ (answerIdentify q s).state.trunkCounters = s.trunkCounters ∧
    (answerIdentify q s).state.stations = s.stations ∧ (answerIdentify q s).state.admission = s.admission ∧
    (answerIdentify q s).state.queues = s.queues ∧ (answerIdentify q s).state.uplink = s.uplink ∧
    (answerIdentify q s).state.agent = s.agent ∧ (answerIdentify q s).state.notices = s.notices ∧
    (answerIdentify q s).state.stamps = s.stamps ∧ (answerIdentify q s).state.identity = s.identity ∧
    (answerIdentify q s).state.led = s.led := by
  unfold answerIdentify
  simp [okWith]

@[simp] theorem answerStartTrunk_frame (q : Request) (s : State) :
    (answerStartTrunk q s).state.pending = s.pending ∧ (answerStartTrunk q s).state.now = s.now ∧
    (answerStartTrunk q s).state.resetRun = s.resetRun ∧ (answerStartTrunk q s).state.pins = s.pins ∧
    (answerStartTrunk q s).state.store = s.store ∧ (answerStartTrunk q s).state.line = s.line ∧
    (answerStartTrunk q s).state.trunkCounters = s.trunkCounters ∧
    (answerStartTrunk q s).state.stations = s.stations ∧ (answerStartTrunk q s).state.admission = s.admission ∧
    (answerStartTrunk q s).state.queues = s.queues ∧ (answerStartTrunk q s).state.uplink = s.uplink ∧
    (answerStartTrunk q s).state.agent = s.agent ∧ (answerStartTrunk q s).state.notices = s.notices ∧
    (answerStartTrunk q s).state.stamps = s.stamps ∧ (answerStartTrunk q s).state.identity = s.identity := by
  unfold answerStartTrunk
  (repeat' split) <;> simp [okWith, refuse]

@[simp] theorem answerStopTrunk_frame (q : Request) (s : State) :
    (answerStopTrunk q s).state.pending = s.pending ∧ (answerStopTrunk q s).state.now = s.now ∧
    (answerStopTrunk q s).state.resetRun = s.resetRun ∧ (answerStopTrunk q s).state.pins = s.pins ∧
    (answerStopTrunk q s).state.trunkCounters = s.trunkCounters ∧
    (answerStopTrunk q s).state.stations = s.stations ∧ (answerStopTrunk q s).state.admission = s.admission ∧
    (answerStopTrunk q s).state.queues = s.queues ∧ (answerStopTrunk q s).state.uplink = s.uplink ∧
    (answerStopTrunk q s).state.agent = s.agent ∧ (answerStopTrunk q s).state.stamps = s.stamps ∧
    (answerStopTrunk q s).state.identity = s.identity := by
  unfold answerStopTrunk
  simp [okWith]

@[simp] theorem answerReadTrunk_frame (q : Request) (s : State) :
    (answerReadTrunk q s).state.pending = s.pending ∧ (answerReadTrunk q s).state.now = s.now ∧
    (answerReadTrunk q s).state.resetRun = s.resetRun ∧ (answerReadTrunk q s).state.pins = s.pins ∧
    (answerReadTrunk q s).state.store = s.store ∧ (answerReadTrunk q s).state.engine = s.engine ∧
    (answerReadTrunk q s).state.line = s.line ∧ (answerReadTrunk q s).state.trunkCounters = s.trunkCounters ∧
    (answerReadTrunk q s).state.stations = s.stations ∧ (answerReadTrunk q s).state.admission = s.admission ∧
    (answerReadTrunk q s).state.queues = s.queues ∧ (answerReadTrunk q s).state.uplink = s.uplink ∧
    (answerReadTrunk q s).state.agent = s.agent ∧ (answerReadTrunk q s).state.notices = s.notices ∧
    (answerReadTrunk q s).state.stamps = s.stamps ∧ (answerReadTrunk q s).state.identity = s.identity ∧
    (answerReadTrunk q s).state.led = s.led := by
  unfold answerReadTrunk
  simp [okWith]

@[simp] theorem actMute_frame (q : Request) (s : State) :
    (setStation (actMute s) q s).state.pending = s.pending ∧ (setStation (actMute s) q s).state.now = s.now ∧
    (setStation (actMute s) q s).state.resetRun = s.resetRun ∧
    (setStation (actMute s) q s).state.pins = s.pins ∧ (setStation (actMute s) q s).state.store = s.store ∧
    (setStation (actMute s) q s).state.engine = s.engine ∧ (setStation (actMute s) q s).state.line = s.line ∧
    (setStation (actMute s) q s).state.trunkCounters = s.trunkCounters ∧
    (setStation (actMute s) q s).state.admission = s.admission ∧
    (setStation (actMute s) q s).state.queues = s.queues ∧
    (setStation (actMute s) q s).state.uplink = s.uplink ∧ (setStation (actMute s) q s).state.agent = s.agent ∧
    (setStation (actMute s) q s).state.stamps = s.stamps ∧
    (setStation (actMute s) q s).state.identity = s.identity ∧ (setStation (actMute s) q s).state.led = s.led := by
  unfold setStation actMute
  (try dsimp only)
  (repeat' split) <;> simp [okWith, refuse, refuseRange]

@[simp] theorem actRestore_frame (q : Request) (s : State) :
    (setStation (actRestore s) q s).state.pending = s.pending ∧
    (setStation (actRestore s) q s).state.now = s.now ∧
    (setStation (actRestore s) q s).state.resetRun = s.resetRun ∧
    (setStation (actRestore s) q s).state.pins = s.pins ∧
    (setStation (actRestore s) q s).state.store = s.store ∧
    (setStation (actRestore s) q s).state.engine = s.engine ∧
    (setStation (actRestore s) q s).state.line = s.line ∧
    (setStation (actRestore s) q s).state.trunkCounters = s.trunkCounters ∧
    (setStation (actRestore s) q s).state.admission = s.admission ∧
    (setStation (actRestore s) q s).state.queues = s.queues ∧
    (setStation (actRestore s) q s).state.uplink = s.uplink ∧
    (setStation (actRestore s) q s).state.agent = s.agent ∧
    (setStation (actRestore s) q s).state.stamps = s.stamps ∧
    (setStation (actRestore s) q s).state.identity = s.identity ∧
    (setStation (actRestore s) q s).state.led = s.led := by
  unfold setStation actRestore
  (try dsimp only)
  (repeat' split) <;> simp [okWith, refuse, refuseRange]

@[simp] theorem actBind_frame (q : Request) (s : State) :
    (setStation (actBind q s) q s).state.pending = s.pending ∧
    (setStation (actBind q s) q s).state.now = s.now ∧
    (setStation (actBind q s) q s).state.resetRun = s.resetRun ∧
    (setStation (actBind q s) q s).state.pins = s.pins ∧ (setStation (actBind q s) q s).state.store = s.store ∧
    (setStation (actBind q s) q s).state.engine = s.engine ∧
    (setStation (actBind q s) q s).state.line = s.line ∧
    (setStation (actBind q s) q s).state.trunkCounters = s.trunkCounters ∧
    (setStation (actBind q s) q s).state.admission = s.admission ∧
    (setStation (actBind q s) q s).state.queues = s.queues ∧
    (setStation (actBind q s) q s).state.uplink = s.uplink ∧
    (setStation (actBind q s) q s).state.agent = s.agent ∧
    (setStation (actBind q s) q s).state.notices = s.notices ∧
    (setStation (actBind q s) q s).state.stamps = s.stamps ∧
    (setStation (actBind q s) q s).state.identity = s.identity ∧
    (setStation (actBind q s) q s).state.led = s.led := by
  unfold setStation actBind
  (try dsimp only)
  (repeat' split) <;> simp [okWith, refuse, refuseRange]

@[simp] theorem actUnbind_frame (q : Request) (s : State) :
    (setStation (actUnbind s) q s).state.pending = s.pending ∧
    (setStation (actUnbind s) q s).state.now = s.now ∧
    (setStation (actUnbind s) q s).state.resetRun = s.resetRun ∧
    (setStation (actUnbind s) q s).state.pins = s.pins ∧ (setStation (actUnbind s) q s).state.store = s.store ∧
    (setStation (actUnbind s) q s).state.engine = s.engine ∧
    (setStation (actUnbind s) q s).state.line = s.line ∧
    (setStation (actUnbind s) q s).state.trunkCounters = s.trunkCounters ∧
    (setStation (actUnbind s) q s).state.admission = s.admission ∧
    (setStation (actUnbind s) q s).state.queues = s.queues ∧
    (setStation (actUnbind s) q s).state.uplink = s.uplink ∧
    (setStation (actUnbind s) q s).state.agent = s.agent ∧
    (setStation (actUnbind s) q s).state.notices = s.notices ∧
    (setStation (actUnbind s) q s).state.stamps = s.stamps ∧
    (setStation (actUnbind s) q s).state.identity = s.identity ∧
    (setStation (actUnbind s) q s).state.led = s.led := by
  unfold setStation actUnbind
  (try dsimp only)
  (repeat' split) <;> simp [okWith, refuse, refuseRange]

end Sys2Proof.Machine
end

