-- ==== Sys2Proof/Laws/Engine.lean ====
section
/-! SUPPORT. What the shared operations of the round engine come to, in the terms of Safety. -/

namespace Sys2Proof.Machine

open Sys2Proof.Safety

/-- Outside a reset an event is its effect and then the arbiter (R144). -/
theorem takeEvent_eq {f : State → State} {s : State} (h : s.resetRun = none) :
    takeEvent f s = .next (f s).arbitrate := by
  simp [takeEvent, State.event, h]

/-- The arbiter takes nothing while the link is DOWN (R144). -/
theorem arbitrate_down {s : State} (h : s.uplink.link = false) : s.arbitrate = s := by
  simp [State.arbitrate, h]

/-- A swap point, field by field (R15, R16). -/
theorem swapPoint_eq (s : State) : s.swapPoint = { s with
    store := if s.store.armed then
        { active := s.store.pending, pending := s.store.pending, generation := s.store.generation + 1, armed := false }
      else s.store
    notices := if s.store.armed then
        s.notices.raise s.engine.round .tableSwapped none
          ⟨s.store.generation + 1, byteOf s.store.pending.entries.length, 0, 0⟩
      else s.notices } := by
  unfold State.swapPoint
  split <;> simp [State.swap, Store.swap, State.onStore, State.raise, State.onNotices]

/-- The entry into STOPPED (R27). -/
theorem enterStopped_eq (s : State) : s.enterStopped = stoppedFrom s := by
  simp only [State.enterStopped, swapPoint_eq, stoppedFrom]
  simp [State.enterTrunk, State.onEngine, Engine.stop, State.raiseTrunkState, State.raise, State.onNotices, ledAtEntry,
    flashStretch, TrunkState.code, TrunkCause.code]

/-- A round boundary (R31). -/
theorem roundBoundary_eq (s : State) : s.roundBoundary = roundStartedFrom s := by
  simp only [State.roundBoundary, swapPoint_eq, roundStartedFrom]
  simp [State.onEngine, State.countTrunk, State.onTrunkCounters, State.sendMarker, State.startTx, State.onLine,
    roundStartMarker, roundStartType, markerTime, bitTime, Engine.enter]
  split <;> simp_all

/-- The entry into BLOCKED (R56). -/
theorem enterBlocked_eq (station : Option Nat) (c : TrunkCause) (s : State) :
    s.enterBlocked station c = blockedFrom station c.code s := by
  simp [State.enterBlocked, blockedFrom, State.countTrunk, State.onTrunkCounters, State.onEngine, Engine.block,
    State.enterTrunk, State.raiseTrunkState, State.raiseRecovery, State.raise, State.onNotices, ledAtEntry,
    flashStretch, TrunkState.code, RecoveryCause.code, fastFlash, millisecond]

/-- The take of a queue's front frame into an empty trunk on-air slot (R129). -/
theorem takeFrame_eq (q : QueueName) (f : Frame) (rest : List Frame) (s : State)
    (h : (s.queues.get q).frames = f :: rest) (hs : s.queues.trunkSlot = none) :
    s.takeFrame q = takenFrom q f rest s := by
  cases q <;> simp_all [State.takeFrame, takenFrom, Queues.get, Queues.on, Queues.takeDown, State.onQueues,
    State.startTx, State.onLine, carrierTime, bitTime, Frame.length] <;> omega

theorem toQuieting_eq (s : State) : s.toQuieting = quieting s := rfl

theorem toTurnaround_eq (s : State) : s.toTurnaround = turningAround s := rfl

theorem stopTx_eq (cut : Bool) (s : State) : s.stopTx cut = quieted cut s := rfl

/-- Carrier outside a call (R53). -/
theorem strayOutside_eq (s : State) : s.strayOutside = strayed s := by
  simp [State.strayOutside, strayed, recovering, State.countTrunk, State.onTrunkCounters, State.raiseRecovery,
    State.raise, State.onNotices, RecoveryCause.code]

/-- CARRIER_ON at the engine (R37, R40, R53). -/
theorem engineCarrierOn_eq (s : State) : s.engineCarrierOn = carrierMet s := by
  unfold State.engineCarrierOn carrierMet
  rcases s.engine.phase with _ | p
  · rfl
  · cases p <;> simp [State.onEngine, Engine.receive, strayOutside_eq, toQuieting_eq, State.suspendFill]
    all_goals first | rfl | (cases s.engine.gap <;> simp) | simp [strayed, recovering]

/-- The engine's part of CARRIER_ON leaves the line alone. -/
theorem carrierMet_line (s : State) : (carrierMet s).line = s.line := by
  unfold carrierMet; split <;> (try split) <;> rfl

/-- The first COLLISION in a burst (R43, R89). -/
theorem burstCollision_eq {s : State} {b : Burst} (h : s.line.burst = some b) (hb : b.collision = false) :
    s.burstCollision = collisionMet b s := by
  unfold State.burstCollision collisionMet
  rw [h]
  simp only [hb, Bool.false_eq_true, if_false, State.engineBurstCollision, State.onLine]
    <;> rcases s.engine.phase with _ | p <;> first | rfl | (cases p <;> rfl)

/-- The called station of the current entry (R23). -/
theorem calledStation_eq {s : State} {i : Nat} {e : RoundEntry} (hi : s.engine.index = some i)
    (he : s.store.active.entries[i]? = some e) : s.calledStation = e.station := by
  simp [State.calledStation, State.currentEntry, hi, he]

end Sys2Proof.Machine
end

