-- ==== Sys2Proof/Laws/Requests.lean ====
section
/-! SUPPORT. What the take of a request can do, and what an asked request comes to (R157 to R166). -/

namespace Sys2Proof.Machine

open Sys2Proof.Safety

/-! ### The state a block sees at step 8 -/

/-- After steps 1 to 4 of an asked request (R157, R161, R171). -/
def State.ready (e : InputEntry) (s : State) : State :=
  match sessionOf s e with
  | none => s.removeTaken.onAgent (Agent.openSession s.now e.request)
  | some _ => s.removeTaken.onAgent (Agent.touch s.now e.request)

@[simp] theorem ready_frame (e : InputEntry) (s : State) :
    (s.ready e).pending = s.pending ∧ (s.ready e).now = s.now ∧ (s.ready e).resetRun = s.resetRun ∧
    (s.ready e).pins = s.pins ∧ (s.ready e).store = s.store ∧ (s.ready e).engine = s.engine ∧
    (s.ready e).line = s.line ∧ (s.ready e).trunkCounters = s.trunkCounters ∧
    (s.ready e).stations = s.stations ∧ (s.ready e).admission = s.admission ∧ (s.ready e).queues = s.queues ∧
    (s.ready e).uplink = s.uplink ∧ (s.ready e).notices = s.notices ∧ (s.ready e).stamps = s.stamps ∧
    (s.ready e).identity = s.identity ∧ (s.ready e).led = s.led := by
  unfold State.ready
  split <;> simp

@[simp] theorem hasKey_iff (a : Addr) (t : BitVec 16) (x : Session) :
    x.hasKey a t = true ↔ x.address = a ∧ x.tag = t := by simp [Session.hasKey]

@[simp] theorem makeRoom_fields (now : Nat) (a : Agent) :
    (a.makeRoom now).input = a.input ∧ (a.makeRoom now).output = a.output ∧ (a.makeRoom now).lease = a.lease ∧
    (a.makeRoom now).softReset = a.softReset ∧
    (a.makeRoom now).counters.requestsTaken = a.counters.requestsTaken ∧
    (a.makeRoom now).counters.refused = a.counters.refused ∧
    (a.makeRoom now).counters.replays = a.counters.replays ∧
    (a.makeRoom now).counters.inputDrops = a.counters.inputDrops ∧
    (a.makeRoom now).counters.responsesDropped = a.counters.responsesDropped ∧
    (a.makeRoom now).counters.envelopeDiscards = a.counters.envelopeDiscards := by
  unfold Agent.makeRoom
  (repeat' split) <;> simp

@[simp] theorem openSession_fields (now : Nat) (q : Request) (a : Agent) :
    (a.openSession now q).input = a.input ∧ (a.openSession now q).output = a.output ∧
    (a.openSession now q).lease = a.lease ∧ (a.openSession now q).softReset = a.softReset ∧
    (a.openSession now q).counters = (a.makeRoom now).counters := by
  simp [Agent.openSession]

@[simp] theorem onSession_fields (address : Addr) (tag : BitVec 16) (f : Session → Session) (a : Agent) :
    (a.onSession address tag f).input = a.input ∧ (a.onSession address tag f).output = a.output ∧
    (a.onSession address tag f).lease = a.lease ∧ (a.onSession address tag f).softReset = a.softReset ∧
    (a.onSession address tag f).counters = a.counters := by
  simp [Agent.onSession]

@[simp] theorem renewLease_fields (now : Nat) (address : Addr) (tag : BitVec 16) (a : Agent) :
    (a.renewLease now address tag).input = a.input ∧ (a.renewLease now address tag).output = a.output ∧
    (a.renewLease now address tag).sessions = a.sessions ∧
    (a.renewLease now address tag).softReset = a.softReset ∧
    (a.renewLease now address tag).counters = a.counters := by
  unfold Agent.renewLease
  split <;> simp

@[simp] theorem holds_renewLease (now : Nat) (address a' : Addr) (tag t' : BitVec 16) (a : Agent) :
    (a.renewLease now address tag).holds a' t' = a.holds a' t' := by
  unfold Agent.renewLease
  split
  · cases h : a.lease <;> simp [Agent.holds, h]
  · rfl

theorem ready_agent (e : InputEntry) (s : State) :
    (s.ready e).agent.input = s.agent.input.tail ∧ (s.ready e).agent.output = s.agent.output ∧
    (s.ready e).agent.lease = leaseAfterTake s e s.now ∧ (s.ready e).agent.softReset = s.agent.softReset ∧
    (∀ a t, (s.ready e).agent.holds a t = s.agent.holds a t) ∧
    Counted s (s.ready e) false ∧
    (s.ready e).agent.counters.responsesDropped = s.agent.counters.responsesDropped := by
  unfold State.ready leaseAfterTake Counted
  cases h : sessionOf s e with
  | none => simp [State.removeTaken, Agent.holds]
  | some x =>
    refine ⟨by simp [State.removeTaken, Agent.touch], by simp [State.removeTaken, Agent.touch], ?_,
      by simp [State.removeTaken, Agent.touch], ?_, by simp [State.removeTaken, Agent.touch],
      by simp [State.removeTaken, Agent.touch]⟩
    · have hh : ∀ a : Agent, a.lease = s.agent.lease →
          (a.renewLease s.now (frameSrc e.bytes) (envTag e.bytes)).lease =
            if s.agent.holds (frameSrc e.bytes) (envTag e.bytes) then
              s.agent.lease.map fun l => { l with expiry := s.now + l.duration * second }
            else s.agent.lease := by
        intro a ha
        have : a.holds (frameSrc e.bytes) (envTag e.bytes) = s.agent.holds (frameSrc e.bytes) (envTag e.bytes) := by
          simp [Agent.holds, ha]
        unfold Agent.renewLease
        rw [this]
        split <;> simp [ha]
      simpa [State.removeTaken, Agent.touch, InputEntry.request] using hh _ (by simp)
    · intro a t
      simp [State.removeTaken, Agent.touch]
      simp [Agent.holds, Agent.onSession]

theorem victim_eq_none (now : Nat) (a : Agent) :
    a.victim now = none ↔ ∀ x ∈ a.sessions, a.holds x.address x.tag = true := by
  have hfold : ∀ (l : List Session) (b : Session), l.foldl (longerIdle now) (some b) ≠ none := by
    intro l
    induction l with
    | nil => simp
    | cons x rest ih => intro b; simp only [List.foldl_cons, longerIdle]; split <;> exact ih _
  unfold Agent.victim
  constructor
  · intro h x hx
    cases hf : a.sessions.filter (fun x => !a.holds x.address x.tag) with
    | nil => simpa using List.filter_eq_nil_iff.mp hf x hx
    | cons b rest => rw [hf] at h; exact absurd h (hfold rest b)
  · intro h
    have : a.sessions.filter (fun x => !a.holds x.address x.tag) = [] :=
      List.filter_eq_nil_iff.mpr fun x hx => by simp [h x hx]
    rw [this]; rfl

/-- The counters of the agent after steps 1 to 4 (R157, R161, R162). -/
theorem ready_counters (e : InputEntry) (s : State) :
    (s.ready e).agent.counters
      = { s.agent.counters with requestsTaken := s.agent.counters.requestsTaken + 1,
                                sessionsEvicted := evictedAfterTake s e } := by
  unfold State.ready evictedAfterTake
  cases h : sessionOf s e with
  | some x => simp [State.removeTaken, Agent.touch]
  | none =>
    have hv : s.removeTaken.agent.victim s.now = none
        ↔ ∀ x ∈ s.agent.sessions, s.agent.holds x.address x.tag = true := victim_eq_none _ _
    simp only [onAgent_agent, openSession_fields, Option.isNone_none, true_and]
    unfold Agent.makeRoom
    by_cases hlen : s.agent.sessions.length < 4
    · rw [if_pos (show s.removeTaken.agent.sessions.length < Config.sessionPlaces from hlen),
        if_neg (by omega)]
      rfl
    · rw [if_neg (show ¬ s.removeTaken.agent.sessions.length < Config.sessionPlaces from hlen)]
      cases hvic : s.removeTaken.agent.victim s.now with
      | none =>
        have := hv.mp hvic
        rw [if_neg]
        · rfl
        · rintro ⟨-, x, hx, hxf⟩
          simp [this x hx] at hxf
      | some v =>
        have hn : ¬ ∀ x ∈ s.agent.sessions, s.agent.holds x.address x.tag = true := by
          intro hall; rw [hv.mpr hall] at hvic; cases hvic
        rw [if_pos]
        · rfl
        · simp only [not_forall, Bool.not_eq_true, exists_prop] at hn
          exact ⟨by omega, hn⟩

theorem find_map_key (address : Addr) (tag : BitVec 16) (f : Session → Session)
    (hf : ∀ x, (f x).address = x.address ∧ (f x).tag = x.tag) (l : List Session) :
    (l.map fun x => if x.hasKey address tag then f x else x).find? (Session.hasKey address tag)
      = (l.find? (Session.hasKey address tag)).map f := by
  induction l with
  | nil => rfl
  | cons x rest ih =>
    by_cases h : x.hasKey address tag = true
    · have : (f x).hasKey address tag = true := by simpa [hf x] using h
      simp only [List.map_cons, h, if_true, List.find?_cons_of_pos, this, Option.map_some]
    · simp only [Bool.not_eq_true] at h
      have h' : ¬ x.hasKey address tag = true := by simp [h]
      rw [List.map_cons, if_neg h', List.find?_cons_of_neg h', List.find?_cons_of_neg h', ih]

theorem find_makeRoom_none (now : Nat) (a : Agent) (p : Session → Bool) (h : a.sessions.find? p = none) :
    (a.makeRoom now).sessions.find? p = none := by
  rw [List.find?_eq_none] at h ⊢
  unfold Agent.makeRoom
  (repeat' split) <;> simp_all

theorem ready_session (e : InputEntry) (s : State) (h : FirstAsked s e) :
    ∃ x, sessionOf (s.ready e) e = some x ∧ x.origin = e.origin ∧ x.lastTake = s.now ∧
      ∀ p, x.last = some p → p.1 ≠ envSeq e.bytes := by
  unfold State.ready
  cases hx : sessionOf s e with
  | none =>
    refine ⟨{ address := e.request.src, tag := e.request.tag, origin := e.request.origin, lastTake := s.now },
      ?_, rfl, rfl, by simp⟩
    simp only [sessionOf, Agent.openSession, onAgent_agent, List.find?_append]
    rw [find_makeRoom_none]
    · simp [InputEntry.request, Session.hasKey]
    · exact hx
  | some x =>
    refine ⟨{ x with lastTake := s.now }, ?_, (h x hx).1, rfl, (h x hx).2⟩
    simp only [sessionOf, Agent.touch, onAgent_agent, renewLease_fields, Agent.onSession, InputEntry.request]
    rw [find_map_key _ _ _ (by simp)]
    simp only [sessionOf] at hx
    simp [State.removeTaken, hx]

/-! ### Steps 5 to 8 -/

/-- What an asked request is answered: step 7, and then the owning block (R158). -/
def RequestRow.settle (row : RequestRow) (q : Request) (s : State) : Answer :=
  match permissionRefusal row.permission q s.agent with
  | some status => refuse status [] s
  | none => if row.fits q.body then row.answer q s else refuse .badRequest [] s

theorem envBody_length {e : InputEntry} {code : Byte} {body : List Byte} (h : Carries e code body) :
    envBodyLength e.bytes = body.length := by
  obtain ⟨-, -, h3, rfl⟩ := h
  simp only [bodyPresent] at h3
  simp [envBody, List.length_take, List.length_drop]
  omega

/-- A request that steps 1 to 4 pass on: the answer of steps 5 to 8, stored and routed (R158, R163). -/
theorem takeRequest_judged {row : RequestRow} {s : State} {e : InputEntry} (ht : Taken s e) (he : Enveloped e)
    (hf : FirstAsked s e) (hr : row.takes e.bytes = true) :
    s.takeRequest row = State.storeAndRoute row e.request (row.judge e.bytes e.request (s.ready e)) := by
  obtain ⟨-, hhead, hout, hsoft⟩ := ht
  obtain ⟨hv, hk, htag⟩ := he
  have htake : s.takeable row = some e := by
    unfold State.takeable
    cases hin : s.agent.input with
    | nil => simp [hin] at hhead
    | cons a rest =>
      simp only [hin, List.head?_cons, Option.some.injEq] at hhead
      subst hhead
      simp [hout, hsoft, hr, Config.outputPlaces]
  have hcarry : s.removeTaken.carry row e = s.removeTaken.stepThree row e.bytes e.request := by
    unfold State.carry
    have : e.request.tag ≠ 0 := htag
    simp only [hv, hk, kindRequest, bne_self_eq_false, Bool.or_self, Bool.false_eq_true, this,
      beq_iff_eq, if_neg, not_false_eq_true]
  unfold State.takeRequest
  rw [htake]
  simp only [hcarry]
  unfold State.stepThree State.ready
  have hses : s.removeTaken.agent.sessions.find? (Session.hasKey e.request.src e.request.tag) = sessionOf s e := rfl
  rw [hses]
  cases hx : sessionOf s e with
  | none => simp [State.stepsFour]
  | some x =>
    have hor : x.origin = e.request.origin := (hf x hx).1
    simp only [hor, beq_self_eq_true, if_true]
    unfold State.stepsFour
    cases hlast : x.last with
    | none => rfl
    | some p =>
      have : p.1 ≠ e.request.seq := (hf x hx).2 p hlast
      simp [this]

/-- A body that passes step 5, under a code of the part: the answer of step 7, or of the block (R158). -/
theorem judge_settles {row : RequestRow} {e : InputEntry} {code : Byte} {body : List Byte}
    (hcar : Carries e code body) (hc : requestCodes.contains code = true)
    (hl : code = codeReadCounters → 3 ≤ body.length) (s : State) :
    row.judge e.bytes e.request s = row.settle e.request s := by
  have hlen := envBody_length hcar
  obtain ⟨h1, h2, h3, -⟩ := hcar
  have hfits : bodyLengthFits e.bytes = true := by
    simp only [bodyLengthFits, Bool.and_eq_true, decide_eq_true_eq, Bool.or_eq_true, bne_iff_ne, ne_eq]
    refine ⟨⟨h2, h3⟩, ?_⟩
    by_cases hcc : envCode e.bytes = codeReadCounters
    · right; rw [hlen]; exact hl (h1 ▸ hcc)
    · left; exact hcc
  have hreq : requestCodes.contains e.request.code = true := by
    have : e.request.code = code := h1
    rw [this]; exact hc
  simp only [RequestRow.judge, RequestRow.settle, hfits, hreq, Bool.not_true, Bool.false_eq_true, if_false]
    <;> cases permissionRefusal row.permission e.request s.agent <;> rfl

/-- A row takes the frame it names. -/
theorem takes_of_names {row : RequestRow} {b : List Byte} (hn : row.names b = true) : row.takes b = true := by
  simp [RequestRow.takes, hn]

/-! ### The answer of an uplink request -/

/-- The agent after an uplink answer is stored and routed (R163, R165). -/
def Agent.answered (q : Request) (refused resets : Bool) (bytes : List Byte) (a : Agent) : Agent :=
  let a := if refused then { a with counters := { a.counters with refused := a.counters.refused + 1 } } else a
  let a := a.onSession q.src q.tag fun x => { x with last := some (q.seq, bytes) }
  { a with softReset := a.softReset || resets, output := a.output ++ [⟨bytes, resets⟩] }

theorem storeAndRoute_uplink (row : RequestRow) (q : Request) (a : Answer) (h : q.origin = .uplink) :
    State.storeAndRoute row q a =
      a.state.onAgent (Agent.answered q (a.status != .ok) (row.resets && a.status == .ok)
        (a.state.responseFrame q a.status a.body)) := by
  unfold State.storeAndRoute State.route State.countRefused
  rw [h]
  cases a.status <;> simp [Agent.answered, State.countAgent, State.onAgent, Agent.onSession]

theorem answered_fields (q : Request) (refused resets : Bool) (bytes : List Byte) (a : Agent) :
    (a.answered q refused resets bytes).input = a.input ∧
    (a.answered q refused resets bytes).output = a.output ++ [⟨bytes, resets⟩] ∧
    (a.answered q refused resets bytes).lease = a.lease ∧
    (a.answered q refused resets bytes).softReset = (a.softReset || resets) ∧
    (a.answered q refused resets bytes).sessions
      = (a.onSession q.src q.tag fun x => { x with last := some (q.seq, bytes) }).sessions ∧
    (a.answered q refused resets bytes).counters
      = { a.counters with refused := a.counters.refused + if refused then 1 else 0 } := by
  cases refused <;> simp [Agent.answered, Agent.onSession]

/-- After an uplink answer the output list is not empty, so the arbiter takes nothing but its head (R144). -/
theorem arbitrate_output {s : State} {r : OutputEntry} {l : List OutputEntry} (h : s.agent.output = l ++ [r]) :
    s.arbitrate.queues = s.queues ∧ s.arbitrate.uplink.link = s.uplink.link ∧
    s.arbitrate.uplink.receiving = s.uplink.receiving ∧ s.arbitrate.uplink.counters = s.uplink.counters := by
  unfold State.arbitrate State.arbiterTake
  split
  · cases hl : s.agent.output with
    | nil => simp [hl] at h
    | cons a rest => simp [State.startUplink]
  · simp

/-- What the agent's arbiter leaves in the uplink port (R144, R145). -/
theorem arbitrate_uplink (s : State) :
    s.arbitrate.uplink.link = s.uplink.link ∧ s.arbitrate.uplink.receiving = s.uplink.receiving ∧
    s.arbitrate.uplink.counters = s.uplink.counters := by
  unfold State.arbitrate State.arbiterTake
  (repeat' split) <;> simp [State.startUplink]

/-- What an uplink request comes to whose answer by steps 5 to 8 is `ans`: the blocks as the answer leaves them, the
answer in the session and at the tail of the output list, the counters with it (R157, R163, R165). -/
def UplinkAnswer (row : RequestRow) (dt : Nat) (s : State) (e : InputEntry) (ans : Answer) : Prop :=
  ∃ t, takeRequestEvent row dt s = .next t ∧ Answered s t e ans.status.code ans.body ∧
    t.pending = ans.state.pending ∧ t.now = ans.state.now ∧ t.resetRun = ans.state.resetRun ∧
    t.pins = ans.state.pins ∧ t.store = ans.state.store ∧ t.engine = ans.state.engine ∧
    t.line = ans.state.line ∧ t.trunkCounters = ans.state.trunkCounters ∧ t.stations = ans.state.stations ∧
    t.admission = ans.state.admission ∧ t.queues = ans.state.queues ∧ t.notices = ans.state.notices ∧
    t.stamps = ans.state.stamps ∧ t.identity = ans.state.identity ∧ t.led = ans.state.led ∧
    t.uplink.link = ans.state.uplink.link ∧ t.uplink.receiving = ans.state.uplink.receiving ∧
    t.uplink.counters = ans.state.uplink.counters ∧ t.agent.lease = ans.state.agent.lease ∧
    t.agent.softReset = (ans.state.agent.softReset || (row.resets && ans.status == .ok)) ∧
    t.agent.counters = { ans.state.agent.counters with
      refused := ans.state.agent.counters.refused + if ans.status != .ok then 1 else 0 } ∧
    t.agent.output = s.agent.output
      ++ [⟨responseTo s e ans.status.code ans.body, row.resets && ans.status == .ok⟩]

/-- An uplink request that steps 1 to 4 pass on, taken as an event: its answer, stored and put out (R157, R158). -/
theorem judged_uplink {row : RequestRow} {dt : Nat} {s : State} {e : InputEntry} {ans : Answer} (ht : Taken s e)
    (he : Enveloped e) (hf : FirstAsked s e) (hr : row.takes e.bytes = true)
    (hu : e.origin = .uplink) (ha : row.judge e.bytes e.request ((s.pass dt).ready e) = ans)
    (hin : ans.state.agent.input = ((s.pass dt).ready e).agent.input)
    (hout : ans.state.agent.output = ((s.pass dt).ready e).agent.output)
    (hses : ans.state.agent.sessions = ((s.pass dt).ready e).agent.sessions)
    (hid : ans.state.identity = s.identity) (hnow : ans.state.now = s.now + dt) :
    UplinkAnswer row dt s e ans := by
  have hev : takeRequestEvent row dt s = .next ((s.pass dt).takeRequest row).arbitrate := by
    have : s.resetRun = none := ht.1
    simp [takeRequestEvent, takeEvent, State.event, this]
  have hq : e.request.origin = .uplink := hu
  have htr := takeRequest_judged (s := s.pass dt) ht he hf hr
  rw [ha, storeAndRoute_uplink row e.request ans hq] at htr
  obtain ⟨r1, r2, r3, r4, r5, -⟩ := ready_agent e (s.pass dt)
  obtain ⟨x, hx1, hx2, hx3, -⟩ := ready_session e (s.pass dt) hf
  have hframe : ans.state.responseFrame e.request ans.status ans.body
      = responseTo s e ans.status.code ans.body := by
    simp [State.responseFrame, responseTo, hid, InputEntry.request, kindResponse]
  rw [hframe] at htr
  obtain ⟨f1, f2, f3, f4, f5, f6⟩ := answered_fields e.request (ans.status != .ok)
    (row.resets && ans.status == .ok) (responseTo s e ans.status.code ans.body) ans.state.agent
  have hmo : ((s.pass dt).takeRequest row).agent.output = s.agent.output
      ++ [⟨responseTo s e ans.status.code ans.body, row.resets && ans.status == .ok⟩] := by
    rw [htr, onAgent_agent, f2, hout, r2]; simp
  obtain ⟨a1, a2, a3, a4⟩ := arbitrate_output hmo
  refine ⟨_, hev, ⟨?_, ⟨{ x with last := some (envSeq e.bytes, responseTo s e ans.status.code ans.body) },
    ?_, hx2, ?_, rfl⟩, ?_, ?_⟩, ?_⟩
  · simp [htr, f1, hin, r1]
  · have hs : ∀ f : Session → Session, ((Agent.onSession e.request.src e.request.tag f) ans.state.agent).sessions
        = ((s.pass dt).ready e).agent.sessions.map fun x =>
            if x.hasKey (frameSrc e.bytes) (envTag e.bytes) then f x else x := by
      intro f
      simp only [Agent.onSession, hses]
      rfl
    simp only [sessionOf, arbitrate_frame, htr, onAgent_agent]
    rw [f5, hs, find_map_key _ _ _ (by simp)]
    simp only [sessionOf] at hx1
    rw [hx1]; rfl
  · rw [(arbitrate_frame _).2.1, htr, onAgent_now, hnow, hx3]; rfl
  · intro _; simp only [arbitrate_frame, hmo, List.map_append, List.map_cons, List.map_nil]
  · intro hne; exact absurd hu hne
  · refine ⟨?_, ?_, ?_, ?_, ?_, ?_, ?_, ?_, ?_, ?_, ?_, ?_, ?_, ?_, ?_, ?_, ?_, ?_, ?_, ?_, ?_, ?_⟩ <;>
      (try rw [a1]) <;> (try rw [a2]) <;> (try rw [a3]) <;> (try rw [a4]) <;>
      first | (simp only [arbitrate_frame]; exact hmo) | simp [htr, f3, f4, f6]

/-- An uplink request that is asked, taken as an event: its block's answer, stored and put out (R157, R158). -/
theorem request_uplink {row : RequestRow} {dt : Nat} {s : State} {e : InputEntry} {code : Byte} {body : List Byte}
    {ans : Answer} (h : Asked s e code body) (hn : row.names e.bytes = true)
    (hc : requestCodes.contains code = true) (hl : code = codeReadCounters → 3 ≤ body.length)
    (hu : e.origin = .uplink) (ha : row.settle e.request ((s.pass dt).ready e) = ans)
    (hin : ans.state.agent.input = ((s.pass dt).ready e).agent.input)
    (hout : ans.state.agent.output = ((s.pass dt).ready e).agent.output)
    (hses : ans.state.agent.sessions = ((s.pass dt).ready e).agent.sessions)
    (hid : ans.state.identity = s.identity) (hnow : ans.state.now = s.now + dt) : UplinkAnswer row dt s e ans :=
  judged_uplink h.1 h.2.1 h.2.2.1 (takes_of_names hn) hu ((judge_settles h.2.2.2 hc hl _).trans ha) hin hout hses
    hid hnow

/-! ### A request that is only answered -/

@[simp] theorem route_trunk_agent (n : Nat) (bytes : List Byte) (b : Bool) (s : State) :
    (s.route (.trunk n) bytes b).agent.input = s.agent.input ∧
    (s.route (.trunk n) bytes b).agent.output = s.agent.output ∧
    (s.route (.trunk n) bytes b).agent.sessions = s.agent.sessions ∧
    (s.route (.trunk n) bytes b).agent.lease = s.agent.lease ∧
    (s.route (.trunk n) bytes b).agent.softReset = s.agent.softReset ∧
    (s.route (.trunk n) bytes b).agent.counters.requestsTaken = s.agent.counters.requestsTaken ∧
    (s.route (.trunk n) bytes b).agent.counters.refused = s.agent.counters.refused ∧
    (s.route (.trunk n) bytes b).agent.counters.replays = s.agent.counters.replays ∧
    (s.route (.trunk n) bytes b).agent.counters.inputDrops = s.agent.counters.inputDrops ∧
    (s.route (.trunk n) bytes b).agent.counters.envelopeDiscards = s.agent.counters.envelopeDiscards := by
  simp only [State.route]
  split <;> simp [State.countAgent]

theorem countRefused_agent (st : Status) (s : State) :
    (s.countRefused st).agent
      = { s.agent with counters :=
          { s.agent.counters with refused := s.agent.counters.refused + if st != .ok then 1 else 0 } } := by
  cases st <;> simp [State.countRefused, State.countAgent]

/-- A request that steps 1 to 4 pass on and that is only answered, from either origin (R158, R165, R166). -/
theorem judged_read {row : RequestRow} {dt : Nat} {s : State} {e : InputEntry} {body' : List Byte} {st : Status}
    (ht : Taken s e) (he : Enveloped e) (hf : FirstAsked s e) (htk : row.takes e.bytes = true)
    (hr : (row.resets && st == .ok) = false)
    (ha : row.judge e.bytes e.request ((s.pass dt).ready e) = ⟨st, body', (s.pass dt).ready e⟩) :
    ∃ t, takeRequestEvent row dt s = .next t ∧ Answered s t e st.code body' ∧ OnlyAnswered dt s t e ∧
      Counted s t (st != .ok) := by
  obtain ⟨p1, p2, p3, p4, p5, p6, p7, p8, p9, p10, p11, p12, p13, p14, p15, p16⟩ := ready_frame e (s.pass dt)
  obtain ⟨r1, r2, r3, r4, r5, r6, -⟩ := ready_agent e (s.pass dt)
  have hreset : s.resetRun = none := ht.1
  have hsoft : s.agent.softReset = false := ht.2.2.2
  cases ho : e.origin with
  | uplink =>
    obtain ⟨t, h1, h2, q1, q2, q3, q4, q5, q6, q7, q8, q9, q10, q11, q12, q13, q14, q15, q16, q17, q18, q19,
      q20, q21, -⟩ :=
      judged_uplink (ans := ⟨st, body', (s.pass dt).ready e⟩) ht he hf htk ho ha rfl rfl rfl (by simp)
        (by simp)
    refine ⟨t, h1, h2, ⟨by simp [q2], ⟨by simp [q5], by simp [q6], by simp [q15],
      by simp [q8], by simp [q9], by simp [q10], by simp [q13], by simp [q14]⟩,
      ⟨by simp [q1], by simp [q3], by simp [q4], by simp [q16], by simp [q17],
        by simp [q18]⟩, fun _ => ⟨by simp [q11], by simp [q7], by simp [q12]⟩, ?_, ?_⟩, ?_⟩
    · rw [q19, r3, q2, p2]; rfl
    · simp [q20, r4, hr, hsoft]
    · unfold Counted at r6 ⊢
      rw [q21]
      simpa using r6
  | trunk n =>
    have hev : takeRequestEvent row dt s = .next ((s.pass dt).takeRequest row).arbitrate := by
      simp [takeRequestEvent, takeEvent, State.event, hreset]
    have hq : e.request.origin = .trunk n := ho
    have htr := takeRequest_judged (s := s.pass dt) ht he hf htk
    rw [ha] at htr
    obtain ⟨x, hx1, hx2, hx3, -⟩ := ready_session e (s.pass dt) hf
    unfold State.storeAndRoute at htr
    rw [hq] at htr
    simp only [hr, Bool.or_false] at htr
    have hframe : ((s.pass dt).ready e).responseFrame e.request st body' = responseTo s e st.code body' := by
      simp [State.responseFrame, responseTo, InputEntry.request, kindResponse]
    rw [hframe] at htr
    obtain ⟨a1, a2, a3⟩ := arbitrate_uplink ((s.pass dt).takeRequest row)
    refine ⟨_, hev, ⟨?_, ⟨{ x with last := some (envSeq e.bytes, responseTo s e st.code body') },
      ?_, hx2, ?_, rfl⟩, ?_, ?_⟩, ⟨?_, ⟨?_, ?_, ?_, ?_, ?_, ?_, ?_, ?_⟩, ⟨?_, ?_, ?_, ?_, ?_, ?_⟩, ?_, ?_, ?_⟩, ?_⟩
    · simp [htr, countRefused_agent, r1]
    · simp only [sessionOf, arbitrate_frame, htr, route_trunk_agent, onAgent_agent]
      have hs : ∀ f : Session → Session,
          ((Agent.onSession e.request.src e.request.tag f) (((s.pass dt).ready e).countRefused st).agent).sessions
          = ((s.pass dt).ready e).agent.sessions.map fun x =>
            if x.hasKey (frameSrc e.bytes) (envTag e.bytes) then f x else x := by
        intro f; rw [countRefused_agent]; rfl
      rw [hs, find_map_key _ _ _ (by simp)]
      simp only [sessionOf] at hx1
      rw [hx1]; rfl
    · simp [htr, hx3]
    · intro hc'; simp [ho] at hc'
    · intro _; simp [htr, countRefused_agent, r2]
    iterate 12 (· simp [htr])
    · rw [a1, htr]; simp
    · rw [a2, htr]; simp
    · rw [a3, htr]; simp
    · intro hc'; simp [ho] at hc'
    · simp only [arbitrate_frame, htr, route_trunk_agent, onAgent_agent, onSession_fields, countRefused_agent]
      rw [r3]
      simp
      rfl
    · simp only [arbitrate_frame, htr, route_trunk_agent, onAgent_agent, onSession_fields, countRefused_agent]
      simp [r4, hsoft]
    · unfold Counted at r6 ⊢
      simp [htr, countRefused_agent]
      simpa using r6

/-- An asked request whose block only answers, from either origin (R158, R165, R166). -/
theorem request_read {row : RequestRow} {dt : Nat} {s : State} {e : InputEntry} {code : Byte} {body body' : List Byte}
    {st : Status} (h : Asked s e code body) (hn : row.names e.bytes = true)
    (hc : requestCodes.contains code = true) (hl : code = codeReadCounters → 3 ≤ body.length)
    (hr : row.resets = false)
    (ha : row.settle e.request ((s.pass dt).ready e) = ⟨st, body', (s.pass dt).ready e⟩) :
    ∃ t, takeRequestEvent row dt s = .next t ∧ Answered s t e st.code body' ∧ OnlyAnswered dt s t e ∧
      Counted s t (st != .ok) :=
  judged_read h.1 h.2.1 h.2.2.1 (takes_of_names hn) (by simp [hr]) ((judge_settles h.2.2.2 hc hl _).trans ha)

/-! ### What a take keeps -/

/-- The changes a take makes to the agent keep `P` (R157 to R163). -/
structure KeepsAgent (P : State → Prop) : Prop where
  counters : ∀ (c : AgentCounters → AgentCounters) (s : State), P s → P (s.countAgent c)
  taken : ∀ s : State, P s → P s.removeTaken
  opened : ∀ (q : Request) (s : State), s.agent.sessions.find? (Session.hasKey q.src q.tag) = none → P s →
    P (s.onAgent (Agent.openSession s.now q))
  touched : ∀ (q : Request) (s : State), P s → P (s.onAgent (Agent.touch s.now q))
  stored : ∀ (a : Addr) (t : BitVec 16) (l : Option (BitVec 16 × List Byte)) (s : State), P s →
    P (s.onAgent (Agent.onSession a t fun x => { x with last := l }))
  waits : ∀ (b : Bool) (s : State), P s → P (s.onAgent fun g => { g with softReset := g.softReset || b })
  output : ∀ (r : OutputEntry) (s : State), P s → P (s.onAgent fun a => { a with output := a.output ++ [r] })
  enqueue : ∀ (f : Frame) (s : State), P s → P (s.enqueue .dx f)

/-- A property of nothing but the other blocks is kept. -/
theorem KeepsAgent.of_onAgent {P : State → Prop} (hA : ∀ (f : Agent → Agent) (s : State), P s → P (s.onAgent f))
    (hE : ∀ (f : Frame) (s : State), P s → P (s.enqueue .dx f)) : KeepsAgent P :=
  { counters := fun _ s h => hA _ s h, taken := fun s h => hA _ s h, opened := fun _ s _ h => hA _ s h,
    touched := fun _ s h => hA _ s h, stored := fun _ _ _ s h => hA _ s h, waits := fun _ s h => hA _ s h,
    output := fun _ s h => hA _ s h, enqueue := hE }

namespace KeepsAgent

variable {P : State → Prop} (k : KeepsAgent P)

include k

theorem countRefused (st : Status) (s : State) (h : P s) : P (s.countRefused st) := by
  unfold State.countRefused
  split
  · exact h
  · exact k.counters _ _ h

theorem route (o : Port) (b : List Byte) (r : Bool) (s : State) (h : P s) : P (s.route o b r) := by
  cases o with
  | uplink => exact k.output ⟨b, r⟩ s h
  | trunk n =>
    simp only [State.route]
    split
    · exact k.counters _ _ (k.enqueue _ _ h)
    · exact k.enqueue _ _ h

theorem storeAndRoute (row : RequestRow) (q : Request) (a : Answer) (h : P a.state) :
    P (State.storeAndRoute row q a) :=
  k.route _ _ _ _ (k.waits _ _ (k.stored _ _ _ _ (k.countRefused _ _ h)))

theorem judge (row : RequestRow)
    (hR : ∀ (q : Request) (s : State), permissionRefusal row.permission q s.agent = none →
      s.agent.sessions.find? (Session.hasKey q.src q.tag) ≠ none → P s → P (row.answer q s).state)
    (b : List Byte) (q : Request) (s : State) (hs : s.agent.sessions.find? (Session.hasKey q.src q.tag) ≠ none)
    (h : P s) : P (row.judge b q s).state := by
  unfold RequestRow.judge refuse
  split
  · exact h
  · split
    · exact h
    · split
      · exact h
      · split
        · exact hR q s (by assumption) hs h
        · exact h

theorem stepsFour (row : RequestRow)
    (hR : ∀ (q : Request) (s : State), permissionRefusal row.permission q s.agent = none →
      s.agent.sessions.find? (Session.hasKey q.src q.tag) ≠ none → P s → P (row.answer q s).state)
    (b : List Byte) (q : Request) (x : Session) (s : State)
    (hs : s.agent.sessions.find? (Session.hasKey q.src q.tag) ≠ none) (h : P s) : P (s.stepsFour row b q x) := by
  unfold State.stepsFour
  split
  · split
    · exact k.route _ _ _ _ (k.counters _ _ h)
    · exact k.storeAndRoute _ _ _ (k.judge row hR b q s hs h)
  · exact k.storeAndRoute _ _ _ (k.judge row hR b q s hs h)

/-- What the agent's changes, the enqueue of an answer and the row's own answers keep, the take keeps. -/
theorem takeRequest (row : RequestRow)
    (hR : ∀ (q : Request) (s : State), permissionRefusal row.permission q s.agent = none →
      s.agent.sessions.find? (Session.hasKey q.src q.tag) ≠ none → P s → P (row.answer q s).state)
    (s : State) (h : P s) : P (s.takeRequest row) := by
  unfold State.takeRequest
  split
  · exact h
  · rename_i e _
    have h1 := k.taken s h
    unfold State.carry
    dsimp only
    split
    · exact k.counters _ _ h1
    · split
      · exact k.route _ _ _ _ (k.countRefused _ _ h1)
      · unfold State.stepThree
        dsimp only
        split
        · rename_i hn
          refine k.stepsFour row hR _ _ _ _ ?_ (k.opened _ _ hn h1)
          simp [Agent.openSession, List.find?_append, Session.hasKey]
        · rename_i x hx
          split
          · refine k.stepsFour row hR _ _ _ _ ?_ (k.touched _ _ h1)
            simp only [onAgent_agent, Agent.touch, renewLease_fields, Agent.onSession]
            rw [find_map_key _ _ _ (by simp), hx]
            simp
          · exact k.route _ _ _ _ (k.countRefused _ _ h1)

end KeepsAgent

end Sys2Proof.Machine
end

