-- ==== Sys2Proof/Laws/Holder.lean ====
section
/-! SUPPORT. What an asked request of the lease holder comes to: its block's answer, with everything the block leaves
alone (R158, R168). -/

namespace Sys2Proof.Machine

open Sys2Proof.Safety

theorem Requests_body {e : InputEntry} {code : Byte} {body : List Byte} (h : Carries e code body) :
    e.request.body = body := h.2.2.2

/-- A request that its class refuses is answered so and reaches no block (R168). -/
theorem settle_refused {row : RequestRow} {q : Request} {s : State} {st : Status}
    (h : permissionRefusal row.permission q s.agent = some st) : row.settle q s = ⟨st, [], s⟩ := by
  simp [RequestRow.settle, h, refuse]

/-- A request that its class allows and whose body fits is answered by its block (R158). -/
theorem settle_allowed {row : RequestRow} {q : Request} {s : State}
    (h : permissionRefusal row.permission q s.agent = none) (hf : row.fits q.body = true) :
    row.settle q s = row.answer q s := by
  simp [RequestRow.settle, h, hf]

theorem holder_allowed {s : State} {e : InputEntry} (hf : FromHolder s e) (k : PermissionClass) (dt : Nat) :
    permissionRefusal k e.request ((s.pass dt).ready e).agent = none := by
  obtain ⟨h1, h2⟩ := hf
  have h3 := (ready_agent e (s.pass dt)).2.2.2.2.1 (frameSrc e.bytes) (envTag e.bytes)
  have h4 : ((s.pass dt).ready e).agent.holds e.request.src e.request.tag = true := by
    simpa [InputEntry.request, h2] using h3
  have h5 : e.request.origin = .uplink := h1
  cases k <;> simp [permissionRefusal, h4, h5]

/-- An asked request of the lease holder whose block changes nothing of the agent, as an event. -/
theorem request_holder {row : RequestRow} {dt : Nat} {s : State} {e : InputEntry} {code : Byte} {body : List Byte}
    (h : Asked s e code body) (hf : FromHolder s e) (hn : row.names e.bytes = true)
    (hc : requestCodes.contains code = true) (hl : code = codeReadCounters → 3 ≤ body.length)
    (hr : row.resets = false) (hfit : row.fits body = true) (ans : Answer)
    (ha : row.answer e.request ((s.pass dt).ready e) = ans)
    (hag : ans.state.agent = ((s.pass dt).ready e).agent) (hid : ans.state.identity = s.identity)
    (hnow : ans.state.now = s.now + dt) (hpend : ans.state.pending = s.pending)
    (hreset : ans.state.resetRun = s.resetRun) (hpins : ans.state.pins = s.pins)
    (hup : ans.state.uplink = s.uplink) :
    ∃ t, takeRequestEvent row dt s = .next t ∧ RequestFrame dt s t e ∧ Answered s t e ans.status.code ans.body ∧
      Counted s t (ans.status != .ok) ∧
      t.store = ans.state.store ∧ t.engine = ans.state.engine ∧ t.line = ans.state.line ∧ t.led = ans.state.led ∧
      t.trunkCounters = ans.state.trunkCounters ∧ t.stations = ans.state.stations ∧
      t.admission = ans.state.admission ∧ t.queues = ans.state.queues ∧ t.notices = ans.state.notices ∧
      t.stamps = ans.state.stamps ∧ t.identity = s.identity := by
  have hs : row.settle e.request ((s.pass dt).ready e) = ans := by
    rw [settle_allowed (holder_allowed hf _ dt) (by rw [Requests_body h.2.2.2]; exact hfit), ha]
  obtain ⟨r1, r2, r3, r4, r5, r6, -⟩ := ready_agent e (s.pass dt)
  obtain ⟨t, h1, h2, q1, q2, q3, q4, q5, q6, q7, q8, q9, q10, q11, q12, q13, q14, q15, q16, q17, q18, q19, q20,
    q21, -⟩ := request_uplink h hn hc hl hf.1 hs (by rw [hag]) (by rw [hag]) (by rw [hag]) hid hnow
  refine ⟨t, h1, ⟨by rw [q2, hnow], ⟨by rw [q1, hpend], by rw [q3, hreset], by rw [q4, hpins], by rw [q16, hup],
    by rw [q17, hup], by rw [q18, hup]⟩, ?_, ?_⟩, h2, ?_, q5, q6, q7, q15, q8, q9, q10, q11, q12, q13, by rw [q14, hid]⟩
  · rw [q19, hag, r3, q2, hnow]; rfl
  · rw [q20, hag, r4]
    have : s.agent.softReset = false := h.1.2.2.2
    simp [hr, this]
  · unfold Counted at r6 ⊢
    rw [q21, hag]
    simpa using r6

end Sys2Proof.Machine
end

