-- ==== Sys2Proof/Laws/Wires.lean ====
section
/-! SUPPORT. What the data outputs carry and what the receivers assemble, item by item. -/

namespace Sys2Proof.Machine

/-! ### Bits and groups of a list of bytes -/

theorem bitsOfByte_length (b : Byte) : (bitsOfByte b).length = 8 := by simp [bitsOfByte]

@[simp] theorem bitsOfBytes_length (l : List Byte) : (bitsOfBytes l).length = 8 * l.length := by
  induction l with
  | nil => rfl
  | cons b rest ih =>
    simp only [bitsOfBytes, List.flatMap_cons, List.length_append, bitsOfByte_length] at ih ⊢
    simp only [ih, List.length_cons]; omega

/-- Bit `i` on a wire is bit `i % 8` of byte `i / 8`. -/
theorem bitsOfBytes_get (l : List Byte) (i : Nat) (h : i < 8 * l.length) :
    (bitsOfBytes l)[i]? = some ((l.getD (i / 8) 0).getLsbD (i % 8)) := by
  induction l generalizing i with
  | nil => simp at h
  | cons b rest ih =>
    change (bitsOfByte b ++ bitsOfBytes rest)[i]? = _
    by_cases hi : i < 8
    · rw [List.getElem?_append_left (by rw [bitsOfByte_length]; exact hi), Nat.div_eq_of_lt hi, Nat.mod_eq_of_lt hi]
      simp [bitsOfByte, hi]
    · rw [List.getElem?_append_right (by rw [bitsOfByte_length]; omega), bitsOfByte_length,
        ih (i - 8) (by simp only [List.length_cons] at h; omega)]
      obtain ⟨j, rfl⟩ : ∃ j, i = j + 8 := ⟨i - 8, by omega⟩
      simp

@[simp] theorem groupsOfBytes_length (l : List Byte) : (groupsOfBytes l).length = 2 * l.length := by
  induction l with
  | nil => rfl
  | cons b rest ih =>
    simp only [groupsOfBytes, List.flatMap_cons, List.length_append] at ih ⊢
    simp only [ih, List.length_cons, List.length_nil]; omega

/-- Group `i` on the uplink is the low or the high half of byte `i / 2`. -/
theorem groupsOfBytes_get (l : List Byte) (i : Nat) (h : i < 2 * l.length) :
    (groupsOfBytes l)[i]? = some ((l.getD (i / 2) 0).extractLsb' (4 * (i % 2)) 4) := by
  induction l generalizing i with
  | nil => simp at h
  | cons b rest ih =>
    change (b.extractLsb' 0 4 :: b.extractLsb' 4 4 :: groupsOfBytes rest)[i]? = _
    match i with
    | 0 => rfl
    | 1 => rfl
    | j + 2 =>
      rw [List.getElem?_cons_succ, List.getElem?_cons_succ, ih j (by simp only [List.length_cons] at h; omega)]
      simp

theorem halves_join (b : Byte) : b.extractLsb' 4 4 ++ b.extractLsb' 0 4 = b := by
  revert b; decide

/-- The receiver assembles the bytes that were sent; a half byte after them is discarded (R138, R140). -/
theorem bytesOfGroups_sent (l : List Byte) (half : List (BitVec 4)) (h : half.length < 2) :
    bytesOfGroups (groupsOfBytes l ++ half) = l := by
  induction l with
  | nil =>
    match half, h with
    | [], _ => rfl
    | [_], _ => rfl
  | cons b rest ih =>
    change (b.extractLsb' 4 4 ++ b.extractLsb' 0 4) :: bytesOfGroups (groupsOfBytes rest ++ half) = _
    rw [ih, halves_join]

theorem byteOfBits_sent : ∀ (b : Byte) (rest : List Bool), byteOfBits (bitsOfByte b ++ rest) = b := by
  intro b rest
  unfold byteOfBits
  rw [List.take_append_of_le_length (by rw [bitsOfByte_length]), List.take_of_length_le (by rw [bitsOfByte_length])]
  revert b; decide

/-- The trunk receiver assembles the bytes that were sent; bits after the last whole byte are discarded (R82, R88). -/
theorem bytesOfBits_sent (l : List Byte) (half : List Bool) (h : half.length < 8) :
    bytesOfBits (bitsOfBytes l ++ half) = l := by
  unfold bytesOfBits
  have hn : (bitsOfBytes l ++ half).length / 8 = l.length := by
    rw [List.length_append, bitsOfBytes_length]; omega
  rw [hn]
  clear hn
  induction l with
  | nil => rfl
  | cons b rest ih =>
    change wholeBytes (rest.length + 1) ((bitsOfByte b ++ bitsOfBytes rest) ++ half) = _
    rw [List.append_assoc, wholeBytes, if_neg (by rw [List.length_append, bitsOfByte_length]; omega),
      byteOfBits_sent, List.drop_append_of_le_length (by rw [bitsOfByte_length]),
      List.drop_of_length_le (by rw [bitsOfByte_length]), List.nil_append, ih]

/-- A run of whole bytes of bits is the bits of some bytes (R82). -/
theorem bitsOfBytes_assembled (n : Nat) (bits : List Bool) (h : bits.length = 8 * n) :
    ∃ l : List Byte, l.length = n ∧ bits = bitsOfBytes l := by
  induction n generalizing bits with
  | zero => exact ⟨[], rfl, List.length_eq_zero_iff.1 (by omega)⟩
  | succ n ih =>
    match bits, h with
    | b0 :: b1 :: b2 :: b3 :: b4 :: b5 :: b6 :: b7 :: rest, h =>
      obtain ⟨l, hl, hr⟩ := ih rest (by simp at h; omega)
      have hb : ∀ b0 b1 b2 b3 b4 b5 b6 b7 : Bool,
        bitsOfByte (byteOfBits [b0, b1, b2, b3, b4, b5, b6, b7]) = [b0, b1, b2, b3, b4, b5, b6, b7] := by decide
      refine ⟨byteOfBits [b0, b1, b2, b3, b4, b5, b6, b7] :: l, by simp [hl], ?_⟩
      change _ = bitsOfByte _ ++ bitsOfBytes l
      rw [hb, hr]; rfl
    | [], h => simp at h
    | [_], h => simp at h; omega
    | [_, _], h => simp at h; omega
    | [_, _, _], h => simp at h; omega
    | [_, _, _, _], h => simp at h; omega
    | [_, _, _, _, _], h => simp at h; omega
    | [_, _, _, _, _, _], h => simp at h; omega
    | [_, _, _, _, _, _, _], h => simp at h; omega

/-- What `firstPair` answers: the first pair of equal consecutive bits and its value (R86). -/
theorem firstPair_eq_some (bits : List Bool) (n : Nat) (v : Bool) : firstPair bits = some (n, v) ↔
    bits[n]? = some v ∧ bits[n + 1]? = some v ∧ ∀ i, i < n → bits[i]? ≠ bits[i + 1]? := by
  match bits with
  | [] => simp [firstPair]
  | [a] => simp [firstPair]
  | a :: b :: rest =>
    have ih := firstPair_eq_some (b :: rest)
    unfold firstPair
    by_cases hab : (a == b) = true
    · rw [if_pos hab]
      rw [beq_iff_eq] at hab
      subst hab
      constructor
      · intro h; cases h
        exact ⟨rfl, rfl, fun i hi => absurd hi (by omega)⟩
      · rintro ⟨h1, h2, h3⟩
        match n with
        | 0 => simp at h1; rw [h1]
        | n + 1 => exact absurd rfl (h3 0 (by omega))
    · rw [if_neg hab]
      rw [beq_iff_eq] at hab
      match n with
      | 0 =>
        constructor
        · intro h
          rw [Option.map_eq_some_iff] at h
          obtain ⟨x, -, hx⟩ := h
          simp at hx
        · rintro ⟨h1, h2, -⟩
          simp at h1 h2
          exact absurd (h1.trans h2.symm) hab
      | n + 1 =>
        have key : ((firstPair (b :: rest)).map fun p => (p.1 + 1, p.2)) = some (n + 1, v)
            ↔ firstPair (b :: rest) = some (n, v) := by
          rw [Option.map_eq_some_iff]
          constructor
          · rintro ⟨⟨p, q⟩, hp, he⟩; simp at he; rw [hp, he.1, he.2]
          · intro h; exact ⟨_, h, rfl⟩
        rw [key, ih n v]
        constructor
        · rintro ⟨h1, h2, h3⟩
          refine ⟨h1, h2, fun i hi => ?_⟩
          match i with
          | 0 => simpa using hab
          | i + 1 => exact h3 i (by omega)
        · rintro ⟨h1, h2, h3⟩
          exact ⟨h1, h2, fun i hi => h3 (i + 1) (by omega)⟩
termination_by bits.length

/-! ### The start delimiter -/

/-- The groups of the assembled bytes are the groups received, when there is no half byte (R138). -/
theorem groupsOfBytes_assembled : ∀ g : List (BitVec 4), g.length % 2 = 0 → groupsOfBytes (bytesOfGroups g) = g
  | [], _ => rfl
  | [_], h => by simp at h
  | a :: b :: rest, h => by
    have ih := groupsOfBytes_assembled rest (by simp at h; omega)
    change (b ++ a).extractLsb' 0 4 :: (b ++ a).extractLsb' 4 4 :: groupsOfBytes (bytesOfGroups rest) = _
    rw [ih]
    have h1 : ∀ a b : BitVec 4, (b ++ a).extractLsb' 0 4 = a ∧ (b ++ a).extractLsb' 4 4 = b := by decide
    rw [(h1 a b).1, (h1 a b).2]

/-- What `firstDelimiter` answers: the place after the first start delimiter that follows a byte of preamble (R140). -/
theorem firstDelimiter_eq_some : ∀ (l : List Byte) (n : Nat), firstDelimiter l = some n ↔
    ∃ pre post, l = pre ++ 0x55 :: 0xD5 :: post ∧ n = pre.length + 2
      ∧ ¬ ∃ i : Nat, (pre ++ [0x55])[i]? = some 0x55 ∧ (pre ++ [0x55])[i + 1]? = some 0xD5 := by
  intro l
  match l with
  | [] => intro n; simp [firstDelimiter]
  | [a] =>
    intro n
    simp only [firstDelimiter, reduceCtorEq, false_iff]
    rintro ⟨pre, post, h, -⟩
    have := congrArg List.length h
    simp at this; omega
  | a :: b :: rest =>
    intro n
    have ih := firstDelimiter_eq_some (b :: rest)
    unfold firstDelimiter
    by_cases hab : (a == preambleByte && b == startDelimiter) = true
    · rw [if_pos hab]
      simp only [preambleByte, startDelimiter, Bool.and_eq_true, beq_iff_eq] at hab
      obtain ⟨rfl, rfl⟩ := hab
      constructor
      · intro h; cases h
        refine ⟨[], rest, rfl, rfl, ?_⟩
        rintro ⟨i, h1, h2⟩
        simp at h2
      · rintro ⟨pre, post, h, rfl, hno⟩
        match pre, h, hno with
        | [], _, _ => rfl
        | [x], h, hno => simp at h
        | x :: y :: pre, h, hno =>
          simp at h
          obtain ⟨rfl, rfl, -⟩ := h
          exact absurd ⟨0, by simp, by simp⟩ hno
    · rw [if_neg hab]
      simp only [preambleByte, startDelimiter, Bool.and_eq_true, beq_iff_eq] at hab
      rw [Option.map_eq_some_iff]
      constructor
      · rintro ⟨m, hm, rfl⟩
        obtain ⟨pre, post, h, rfl, hno⟩ := (ih m).1 hm
        refine ⟨a :: pre, post, by rw [h]; rfl, by simp, ?_⟩
        rintro ⟨i, h1, h2⟩
        match i with
        | 0 =>
          have hb : b = 0xD5 := by
            cases pre with
            | nil => simp at h2
            | cons x xs => simp at h h2; exact h.1.trans h2
          simp at h1
          exact hab ⟨h1, hb⟩
        | i + 1 => exact hno ⟨i, by simpa using h1, by simpa using h2⟩
      · rintro ⟨pre, post, h, rfl, hno⟩
        cases pre with
        | nil => simp at h; exact absurd ⟨h.1, h.2.1⟩ hab
        | cons x xs =>
          simp at h
          refine ⟨xs.length + 2, (ih _).2 ⟨xs, post, h.2, rfl, ?_⟩, by simp⟩
          rintro ⟨i, h1, h2⟩
          exact hno ⟨i + 1, by simpa using h1, by simpa using h2⟩
termination_by l => l.length

/-- The receiver begins a frame exactly at the first start delimiter that follows a byte of preamble (R140). -/
theorem endsPreamble_iff (groups : List (BitVec 4)) : endsPreamble groups = true ↔
    ∃ l, groups = groupsOfBytes (l ++ [0x55, 0xD5])
      ∧ ¬ ∃ i : Nat, (l ++ [0x55])[i]? = some 0x55 ∧ (l ++ [0x55])[i + 1]? = some 0xD5 := by
  unfold endsPreamble
  rw [Bool.and_eq_true, beq_iff_eq, beq_iff_eq]
  constructor
  · rintro ⟨h1, h2⟩
    obtain ⟨pre, post, h, hn, hno⟩ := (firstDelimiter_eq_some _ _).1 h2
    have hp : post = [] := by
      have := congrArg List.length h
      simp at this
      exact List.length_eq_zero_iff.1 (by omega)
    subst hp
    exact ⟨pre, by rw [← groupsOfBytes_assembled groups h1, h], hno⟩
  · rintro ⟨l, rfl, hno⟩
    have := bytesOfGroups_sent (l ++ [0x55, 0xD5]) [] (by simp)
    rw [List.append_nil] at this
    rw [this]
    refine ⟨by simp, (firstDelimiter_eq_some _ _).2 ⟨l, [], rfl, by simp, hno⟩⟩

/-! ### What an output carries at a moment -/

/-- During its own stretch of the transmission, item `i` is on the output. -/
theorem itemAt_during {α : Type} (items : List α) (period ends moment i : Nat) (hi : i < items.length)
    (hfrom : ends + period * i ≤ moment + period * items.length)
    (hto : moment + period * items.length < ends + period * (i + 1)) :
    itemAt items period ends moment = items[i]? := by
  have hp : 0 < period := Nat.pos_of_ne_zero fun h => by simp [h] at hfrom hto; omega
  have hle : period * (i + 1) ≤ period * items.length := Nat.mul_le_mul_left _ hi
  have hdiv : (moment + period * items.length - ends) / period = i :=
    Nat.div_eq_of_lt_le (by rw [Nat.mul_comm i]; omega) (by rw [Nat.mul_comm (i + 1)]; omega)
  unfold itemAt
  rw [if_pos (by simp only [Bool.and_eq_true, decide_eq_true_eq]; omega), hdiv]

/-- Before the first item and after the last, the output carries nothing. -/
theorem itemAt_outside {α : Type} (items : List α) (period ends moment : Nat)
    (h : moment + period * items.length < ends ∨ ends ≤ moment) : itemAt items period ends moment = none := by
  unfold itemAt
  rw [if_neg (by simp only [Bool.and_eq_true, decide_eq_true_eq]; omega)]

/-- What is put on a wire for a frame is eight bytes longer than the frame (R93, R143). -/
@[simp] theorem wireBytes_length (frame : List Byte) : (wireBytes frame).length = frame.length + 8 := by
  simp [wireBytes]

/-- A head frame's bits last for its carrier time (R93). -/
theorem carrierTime_bits (frame : List Byte) :
    carrierTime frame.length = bitTime * (bitsOfBytes (wireBytes frame)).length := by
  simp [carrierTime, bitTime]; omega

/-- A marker's bits last for the air time of a marker (R92). -/
theorem markerTime_bits (m : Marker) : markerTime = bitTime * (bitsOfBytes m.bytes).length := by
  simp [markerTime, Marker.bytes, bitTime]

/-- An uplink frame's groups last for its time on the uplink (R138, R143). -/
theorem uplinkTime_groups (frame : List Byte) :
    uplinkTime frame.length = uplinkPeriod * (groupsOfBytes (wireBytes frame)).length := by
  simp [uplinkTime, uplinkPeriod]; omega

end Sys2Proof.Machine
end

