-- ==== Sys2Proof/WellFormed.lean ====
section
/-! DEFINITION. Which commands can be given: the check a command's own operands meet. -/

namespace Sys2Proof

/-- A session's tag is 1 to 65535 (R160), so no session with tag 0 can end; every other operand takes every
value of its type. -/
def Instr.wellFormed : Instr → Bool
  | .sessionIdleEnd _ tag => tag != 0
  | .identify _ | .claim _ | .release _ | .resetDevice _ => true
  | .readRound _ | .writeRound _ | .setRoundParams _ | .commitRound _ | .disarmRound _ => true
  | .readTrunk _ | .startTrunk _ | .stopTrunk _ => true
  | .readStations _ | .enrolStation _ | .withdrawStation _ => true
  | .setStationMute _ | .setStationRestore _ | .setStationBind _ | .setStationUnbind _ => true
  | .readRules _ | .writeRules _ | .setDefaults _ => true
  | .readQueues _ | .setQueueLimits _ | .flushQueue _ => true
  | .readNotices _ | .ackNotices _ | .readCounters _ | .readCountersClear _ => true
  | .powerApplied _ | .rstnAsserted _ | .resetEnd _ _ | .supplySettled _ | .rstnDeasserted _ => true
  | .linkUp _ | .linkDown _ => true
  | .carrierOn _ | .carrierOff _ _ _ | .collision _ | .overrun | .echoAllowanceEnd _ _ => true
  | .markerEnd | .headFrameEnd => true
  | .answerWindowExpiry | .continueWindowExpiry | .turnaroundEnd | .interFrameGapEnd => true
  | .quietInterval | .floorExpiry => true
  | .receiverBeginsFrame _ | .receiveCompletion _ _ _ => true
  | .uplinkTransmissionEnd | .uplinkGapEnd => true
  | .leaseExpiry | .retryTime _ | .secondsSinceResetTick | .ledTrunkFlash => true

end Sys2Proof
end

