-- ==== Sys2Proof/Tests/Slice0.lean ====
section
/-! SUPPORT. Tests: the smoke test of WellFormed, the worked examples of the spec, and for each statement with
hypotheses a state and operands that meet them. -/

namespace Sys2Proof.Tests

/-! The tests are checked one after another: each that waits for the kernel would hold a thread with its own stack. -/

set_option Elab.async false

open Sys2Proof.Machine Sys2Proof.Safety

/-! ### Well-formedness and words -/

/-- A session's tag is 1 to 65535 (R160). -/
theorem test_session_tag_zero_refused : (Instr.sessionIdleEnd 1 0).wellFormed = false := by decide

theorem test_session_tag_accepted : (Instr.sessionIdleEnd 1 0xFFFF).wellFormed = true := by decide

/-- No row of the table gives bits, so no word spells a command. -/
theorem test_no_word_spells : decodeTableWord 8 0 = none ∧ State.reset.withFetchWord 8 0 = State.reset := by decide

/-! ### Worked examples of the spec -/

/-- R92: ROUND_START(41, 7) has check 0xB3, CALL(14, 1) 0xC4; 04 section 4.7: CALL(5, 2) 0xCC, PASS(5) 0xBE. -/
theorem test_marker_checks :
    [(roundStartMarker 41 7).check, (callMarker 14 1).check, (callMarker 5 2).check, Marker.check ⟨0x3C, 5, 0⟩]
      = [0xB3, 0xC4, 0xCC, 0xBE] := by decide

/-- 04 section 4.7: PASS(5) on the line is a MARKER, and a lead-in with 40 bits in all a BAD_MARKER. -/
theorem test_marker_bursts :
    classifyBits (bitsOfBytes [0x33, 0x0F, 0x3C, 0x05, 0x00, 0xBE]) = .marker ⟨0x3C, 5, 0⟩
    ∧ classifyBits (bitsOfBytes [0x33, 0x0F, 0x3C, 0x05, 0x00]) = .badMarker := by decide

/-- The check value of this generator polynomial over the nine bytes 0x31 to 0x39 is 0xCBF43926 (R207's rule). -/
theorem test_fcs_check_value :
    fcsBytes [0x31, 0x32, 0x33, 0x34, 0x35, 0x36, 0x37, 0x38, 0x39] = [0x26, 0x39, 0xF4, 0xCB] := by decide +kernel

/-- 00_scope: a 64-byte frame is charged 672 BT, a 1522-byte frame 12,336 BT. -/
theorem test_charged_times : chargedTime 64 = 672 * 10 ∧ chargedTime 1522 = 12336 * 10 := by decide

/-- 00_scope: 5 covers 65530. -/
theorem test_covers_wraps : covers 5 65530 = true ∧ covers 65530 5 = false := by decide

/-- R207: a WRITE_ROUND of three entries is padded to 64 bytes, the longest READ_ROUND answer is 297 bytes. -/
theorem test_frame_lengths :
    (buildFrame 0 0 1 7 1 0x11 0 (List.replicate 15 0)).length = 64
    ∧ (buildFrame 0 0 2 7 1 0x10 0 (List.replicate 269 0)).length = 297 := by decide +kernel

/-- The reports of 03 section 3.6, E1 to E5, as (round, outcome, foreign frames). -/
def strikeReports : List Report :=
  [⟨.missed, 20, 0, 0⟩, ⟨.answered, 21, 0, 0⟩, ⟨.answered, 22, 0, 1⟩, ⟨.collided, 23, 0, 0⟩, ⟨.excess, 24, 0, 0⟩]

/-- 03 section 3.6, E1 to E5: state, miss, strike, clean run and last answered round after each report. -/
theorem test_station_strikes :
    (strikeReports.scanl (fun r p => (judge {} p r).1) { station := 7 }).map
        (fun r => (r.state, r.missCount, r.strikeCount, r.cleanRun, r.lastAnswered))
      = [(.unseen, 0, 0, 0, none), (.unseen, 1, 0, 0, none), (.present, 0, 0, 1, some 21),
         (.present, 0, 0, 0, some 22), (.present, 0, 1, 0, some 23), (.present, 0, 2, 0, some 24)] := by decide

/-- 03 section 3.6, E6, E7, E9, E10: the mute cause and the notice's cause of each. -/
theorem test_station_mute_and_restore :
    let r6 : Station := { station := 7, state := .muted, muteCause := some .manual, strikeCount := 2,
                          lastAnswered := some 24 }
    let j7 := judge {} ⟨.excess, 25, 0, 0⟩ r6
    let j10 := judge {} ⟨.passed, 27, 0, 0⟩ j7.1.restore
    (j7.1.state, j7.1.strikeCount, j7.1.muteCause, j7.1.lastAnswered, j7.2)
      = (.muted, 3, some .manual, some 25, none)
    ∧ (j10.1.state, j10.1.cleanRun, j10.1.lastAnswered, j10.2) = (.present, 1, some 27, some .answered) := by decide

/-- The three rules of 05 section 5.6. -/
def exampleRules : Admission :=
  { rules := [{ enabled := true, direction := .up, value := 0x025A4A03102E, mask := 0xFFFFFFFFFFFF,
                type := some 0xA7D1, action := .agent },
              { enabled := true, direction := .up, origin := some 4, action := .expedite },
              { enabled := true, direction := .either, value := 0xFFFFFFFFFFFF, mask := 0xFFFFFFFFFFFF,
                action := .drop }] ++ List.replicate 13 {} }

/-- The head of a frame to an address with a type. -/
def frameTo (dst : Addr) (type : Nat) : List Byte := addrBytes dst ++ List.replicate 6 0 ++ bytes2 type

/-- 05 section 5.6, E1, E2, E3 and E8: which rule decides, and the counters. -/
theorem test_admission_example :
    (exampleRules.decide ⟨frameTo 0x020000000020 0x0800, some 4⟩).1 = .expedite
    ∧ (exampleRules.decide ⟨frameTo 0xFFFFFFFFFFFF 0x0806, none⟩).1 = .drop
    ∧ (exampleRules.decide ⟨frameTo 0x025A4A03102E 0xA7D1, some 9⟩).1 = .agent
    ∧ (exampleRules.decide ⟨frameTo 0x020000000031 0x0800, none⟩).1 = .forward
    ∧ (exampleRules.decide ⟨frameTo 0x020000000031 0x0800, none⟩).2.hitsDown = 1 := by decide

/-- Frames of given lengths, all zero bytes. -/
def zeros (n : Nat) : Frame := ⟨List.replicate n 0, .uplink, none, some 0⟩

/-- 06 section 6.7, E4: 300 bytes do not fit DN at 255 of 256 cells; E10: 12 cells are more than the 10 free. -/
theorem test_pool_example :
    enqueueFails .dn 3 { State.reset with queues := { dn := { frames := List.replicate 21 (zeros 1500) ++ [zeros 384],
                                                              frameLimit := 128, cellLimit := 256 }, free := 37 } }
      = some .cellLimit
    ∧ enqueueFails .dx 12 { State.reset with queues := { free := 10 } } = some .pool
    ∧ cellsOf 1522 = 12 ∧ cellsOf 1000 = 8 ∧ cellsOf 600 = 5 ∧ cellsOf 297 = 3 := by decide +kernel

/-- 09 section 9.6, the list at the start. -/
def exampleNotices : NoticeList :=
  { records := [{ number := 18, kind := .tableSwapped, station := none, detail := ⟨0, 0, 0, 0⟩, sends := 1,
                  firstRound := 0, lastRound := 0, retry := some 5 },
                { number := 19, kind := .trunkState, station := none, detail := ⟨2, 1, 0, 0⟩, sends := 1,
                  firstRound := 0, lastRound := 0, retry := some 5 }],
    next := 20 }

/-- 09 section 9.6, rounds 41 and 42: the record of station 6 coalesces under the next number. -/
theorem test_notice_coalesces :
    let l := ((exampleNotices.raise 41 .stationState (some 6) ⟨2, 3, 1, 0⟩).raise 42 .stationState (some 6) ⟨1, 2, 0, 0⟩)
    l.records.map (fun n => (n.number, n.occurrences, n.firstRound, n.lastRound))
      = [(18, 1, 0, 0), (19, 1, 0, 0), (21, 2, 41, 42)] ∧ l.next = 22 := by decide

/-- 09 section 9.6, the acknowledgement of 29: all records go. -/
theorem test_acknowledge_covers : (exampleNotices.acknowledge 29).records = []
    ∧ (exampleNotices.acknowledge 18).records.map Notice.number = [19] := by decide

/-- 10 section 10.5, time 2: at link UP the RESTARTED notice is the first frame sent. -/
theorem test_link_up_sends_restarted :
    (match exec (.linkUp 0) State.reset with
     | .next t => match t.uplink.tx with
       | .sending (.notice n frame) ends => n == 0 && frameDst frame == 0x0B3A6C000001 && ends == (64 + 8) * 8
       | _ => false
     | _ => false) = true := by decide +kernel

/-- 04 section 4.7: the burst that ended at 870 BT leaves QUIETING until 1126 BT. -/
theorem test_quiet_moment :
    quietMoment { State.reset with line := { lastOff := some 8700 }, engine := { quietFrom := some 8700 } }
      = some 11260 := by decide

/-! ### Small states for the witnesses -/

/-- A manager's address; its session has tag 7. -/
def manager : Addr := 0x02000000004D

/-- A request frame of the manager with a version, a kind, a tag and sequence 1, padded to 64 bytes. Its FCS bytes are 0:
the agent judges a frame whose FCS the ports have checked before (R141, R158). -/
def frameOf (version kind : Byte) (tag : BitVec 16) (code : Byte) (body : List Byte) : List Byte :=
  let head := addrBytes Config.exampleFactoryAddress ++ addrBytes manager ++ [0xA7, 0xD1, version, kind]
    ++ bytes2 tag.toNat ++ [0, 1, code, 0] ++ bytes2 body.length ++ body
  head ++ List.replicate (60 - head.length) 0 ++ [0, 0, 0, 0]

/-- An IDENTIFY of the manager as it comes on a wire, with its FCS. -/
def goodFrame : List Byte := buildFrame Config.exampleFactoryAddress manager 1 7 1 0x01 0 []

/-- The request as an input list entry from a port. -/
def entryFrom (origin : Port) (code : Byte) (body : List Byte) : InputEntry := ⟨origin, frameOf 1 1 7 code body⟩

/-- The request from the uplink. -/
def entryOf (code : Byte) (body : List Byte) : InputEntry := entryFrom .uplink code body

/-- The state with an entry at the head of its input list. -/
def State.giving (s : State) (e : InputEntry) : State :=
  { s with uplink := { s.uplink with link := true }, agent := { s.agent with input := [e] } }

/-- The manager's session. -/
def session : Session := { address := manager, tag := 7, origin := .uplink, lastTake := 0 }

/-- The manager's lease. -/
def lease : Lease := { address := manager, tag := 7, duration := 60, expiry := 6000000000 }

/-- The state with the manager's session and its lease. -/
def State.leased (s : State) : State :=
  { s with agent := { s.agent with sessions := [session], lease := some lease } }

/-- What `Taken`, `Enveloped` and `FirstAsked` say, as a check. -/
def passedOnCheck (s : State) (e : InputEntry) : Bool :=
  s.resetRun.isNone && s.agent.input.head? == some e && s.agent.output.length < 4 && !s.agent.softReset
    && envVersion e.bytes == 1 && envKind e.bytes == 1 && envTag e.bytes != 0
    && (match sessionOf s e with
        | none => true
        | some x => x.origin == e.origin && (match x.last with | none => true | some p => p.1 != envSeq e.bytes))

theorem passedOn_of_check {s : State} {e : InputEntry} (h : passedOnCheck s e = true) :
    Taken s e ∧ Enveloped e ∧ FirstAsked s e := by
  simp only [passedOnCheck, Bool.and_eq_true, Option.isNone_iff_eq_none, beq_iff_eq, decide_eq_true_eq,
    Bool.not_eq_true', bne_iff_ne, ne_eq] at h
  obtain ⟨⟨⟨⟨⟨⟨⟨h1, h2⟩, h3⟩, h4⟩, h5⟩, h6⟩, h7⟩, h8⟩ := h
  refine ⟨⟨h1, h2, h3, h4⟩, ⟨h5, h6, h7⟩, ?_⟩
  intro x hx
  rw [hx] at h8
  simp only [Bool.and_eq_true, beq_iff_eq] at h8
  refine ⟨h8.1, fun p hp => ?_⟩
  have := h8.2
  rw [hp] at this
  simpa using this

/-- What `Carries` says, as a check. -/
def carriesCheck (e : InputEntry) (code : Byte) (body : List Byte) : Bool :=
  envCode e.bytes == code && envBodyLength e.bytes ≤ 480 && envBodyLength e.bytes ≤ bodyPresent e.bytes
    && envBody e.bytes == body

theorem carries_of_check {e : InputEntry} {code : Byte} {body : List Byte} (h : carriesCheck e code body = true) :
    Carries e code body := by
  simp only [carriesCheck, Bool.and_eq_true, beq_iff_eq, decide_eq_true_eq] at h
  exact ⟨h.1.1.1, h.1.1.2, h.1.2, h.2⟩

/-- What `Asked` says, as a check. -/
def askedCheck (s : State) (e : InputEntry) (code : Byte) (body : List Byte) : Bool :=
  passedOnCheck s e && carriesCheck e code body

theorem asked_of_check {s : State} {e : InputEntry} {code : Byte} {body : List Byte}
    (h : askedCheck s e code body = true) : Asked s e code body := by
  simp only [askedCheck, Bool.and_eq_true] at h
  obtain ⟨h1, h2, h3⟩ := passedOn_of_check h.1
  exact ⟨h1, h2, h3, carries_of_check h.2⟩

/-- The manager's request is asked in this state, from the uplink, with no session before. -/
def AskedIn (s : State) (code : Byte) (body : List Byte) : Prop :=
  Asked (State.giving s (entryOf code body)) (entryOf code body) code body

/-- The manager's request is asked in this state with the lease held by the manager. -/
def HeldIn (s : State) (code : Byte) (body : List Byte) : Prop :=
  Asked (State.giving (State.leased s) (entryOf code body)) (entryOf code body) code body
    ∧ FromHolder (State.giving (State.leased s) (entryOf code body)) (entryOf code body)

theorem askedIn_of_check {ss : List State} {code : Byte} {bodies : List (List Byte)}
    (h : (ss.all fun s => bodies.all fun b =>
      askedCheck (State.giving s (entryOf code b)) (entryOf code b) code b) = true) :
    ∀ s ∈ ss, ∀ b ∈ bodies, AskedIn s code b := by
  intro s hs b hb
  rw [List.all_eq_true] at h
  have := h s hs
  rw [List.all_eq_true] at this
  exact asked_of_check (this b hb)

theorem heldIn_of_check {ss : List State} {code : Byte} {bodies : List (List Byte)}
    (h : (ss.all fun s => bodies.all fun b =>
      askedCheck (State.giving (State.leased s) (entryOf code b)) (entryOf code b) code b
        && Agent.holds (frameSrc (entryOf code b).bytes) (envTag (entryOf code b).bytes) (State.leased s).agent) = true) :
    ∀ s ∈ ss, ∀ b ∈ bodies, HeldIn s code b := by
  intro s hs b hb
  rw [List.all_eq_true] at h
  have := h s hs
  rw [List.all_eq_true] at this
  have := this b hb
  rw [Bool.and_eq_true] at this
  exact ⟨asked_of_check this.1, rfl, this.2⟩

/-- A station entry and a head entry. -/
def entries : List RoundEntry := [⟨3, 2, none, .expFirst⟩, ⟨0, 2, none, .expFirst⟩]

/-- PENDING holds a station entry and a head entry, and station 3 is enrolled. -/
def edited : State :=
  { State.reset with store := { pending := { entries := entries } }, stations := [{ station := 3 }] }

/-- The same, armed. -/
def armed : State := { edited with store := { edited.store with armed := true } }

/-- A running trunk with the two entries in ACTIVE, in a phase, at an index. -/
def running (trunk : TrunkState) (phase : Option Phase) (index : Option Nat) : State :=
  { State.reset with
    store := { active := { entries := entries, header := { floor := 1500 } }
               pending := { entries := entries, header := { floor := 1500 } } }
    stations := [{ station := 3 }]
    engine := { trunk := trunk, phase := phase, index := index, roundStart := some 0, timer := some 40
                gap := if phase = some .sending then some 40 else none, quietFrom := some 10 } }

/-- The running trunk with a frame on air and in the trunk on-air slot, or with a marker on air. -/
def onAir (content : TrunkContent) (trunk : TrunkState) (phase : Phase) (index : Option Nat) : State :=
  let s := running trunk (some phase) index
  { s with
    line := { tx := some ⟨content, 480⟩ }
    queues := { s.queues with free := 511, trunkSlot := some ⟨zeros 64, .dn⟩ } }

/-- The running trunk with a burst held. -/
def inBurst (phase : Phase) (index : Option Nat) : State :=
  { running .running (some phase) index with line := { burst := some { start := 0 } } }

/-- The running trunk with an echo allowance that runs. -/
def inEcho (cut : Bool) (phase : Phase) : State :=
  { running .running (some phase) (some 0) with line := { echo := some { ends := 80, cut := cut } } }

/-- A reset of a kind in progress. -/
def resetting (kind : ResetKind) (settled released : Option Nat) : State :=
  { State.reset with resetRun := some { kind := kind, began := 0, settled := settled, released := released } }

/-- The part with an uplink transmission in progress. -/
def sending (source : UplinkSource) : State :=
  { State.reset with uplink := { link := true, tx := .sending source 576 } }

/-! ### Witnesses: for each statement with hypotheses, what meets them -/

theorem test_witness_StepTakesTheFrontCommandOrIdles : State.reset.pending = [] := rfl

theorem test_witness_ExecKeepsTheQueue : ∃ t, exec (.linkUp 0) State.reset = .next t := ⟨_, rfl⟩

theorem test_witness_NoEventDuringReset :
    (resetting .soft none none).resetRun ≠ none ∧ isResetCommand (.carrierOn 5) = false := by decide

theorem test_witness_ReadRoundReportsOneBank :
    ∀ s ∈ [State.reset, armed], ∀ b ∈ [[2, 0, 0], [0, 64, 1], [0, 0, 0], [1, 63, 255]], AskedIn s 0x10 b :=
  askedIn_of_check (by decide +kernel)

/-- Each check of WRITE_ROUND at a boundary: FIRST, COUNT, LENGTH twice, ENTRY, and three writes that pass. PENDING
holds two entries. -/
theorem test_witness_WriteRoundEditsPending :
    (∀ s ∈ [edited, armed], ∀ b ∈ [([3, 1, 3] : List Byte) ++ [3, 1, 0, 0],
        [1, 64, 64] ++ (List.replicate 64 ([3, 1, 0, 0] : List Byte)).flatten, [0, 1, 65] ++ [3, 1, 0, 0],
        [2, 1, 4] ++ [3, 1, 0, 0], [1, 2, 3] ++ [3, 1, 0, 0] ++ [31, 1, 0, 0], [0, 1, 2] ++ [0, 8, 0, 2], [2, 0, 0],
        [2, 62, 64] ++ (List.replicate 62 ([3, 1, 255, 0] : List Byte)).flatten], HeldIn s 0x11 b)
    ∧ edited.store.armed = false ∧ armed.store.armed = true
    ∧ EntryInRange [3, 1, 0, 0] ∧ EntryInRange [0, 8, 0, 2] ∧ EntryInRange [3, 1, 255, 0]
    ∧ ¬ EntryInRange [31, 1, 0, 0] :=
  ⟨heldIn_of_check (by decide +kernel), by unfold EntryInRange; decide⟩

/-- Every parameter on both sides of each bound, and an armed PENDING. -/
theorem test_witness_SetRoundParamsReplacesHeader :
    ∀ s ∈ [State.reset, armed], ∀ b ∈ [[15, 32, 1, 1, 1, 0, 0], [16, 31, 1, 1, 1, 0, 0], [16, 32, 0, 1, 1, 0, 0],
      [16, 32, 16, 1, 1, 0, 0], [16, 32, 15, 0, 1, 0, 0], [16, 32, 15, 8, 1, 0, 0], [16, 32, 15, 7, 0, 0, 0],
      [16, 32, 1, 1, 1, 0, 0], [255, 255, 15, 7, 255, 255, 255]], HeldIn s 0x12 b :=
  heldIn_of_check (by decide +kernel)

/-- COMMIT_ROUND armed, empty, with an unknown station, in STOPPED and in RUNNING. -/
theorem test_witness_CommitRoundSwapsOrArms :
    (∀ s ∈ [armed, State.reset, { edited with stations := [] }, edited, running .running (some .floor) none],
      ∀ b ∈ [([] : List Byte)], HeldIn s 0x13 b)
    ∧ State.reset.store.pending.entries = [] ∧ edited.store.pending.entries ≠ []
    ∧ (∀ x ∈ edited.store.pending.entries, x.station = 0 ∨ ∃ r ∈ edited.stations, r.station = x.station) :=
  ⟨heldIn_of_check (by decide +kernel), by decide⟩

theorem test_witness_DisarmRoundClearsTheFlag : ∀ s ∈ [armed, edited], ∀ b ∈ [[]], HeldIn s 0x14 b :=
  heldIn_of_check (by decide +kernel)

theorem test_witness_IdentifyReportsThePart : ∀ s ∈ [State.reset], ∀ b ∈ [[]], AskedIn s 0x01 b :=
  askedIn_of_check (by decide +kernel)

/-- READ_TRUNK in STOPPED, in FLOOR with the floor ahead, and past it. -/
theorem test_witness_ReadTrunkReportsTheEngine :
    ∀ s ∈ [State.reset, running .running (some .floor) none,
      { running .stopping (some .awaiting) (some 0) with now := 150001 }], ∀ b ∈ [[]], AskedIn s 0x20 b :=
  askedIn_of_check (by decide +kernel)

theorem test_witness_ReadStationsAndRulesReportARange :
    (∀ s ∈ [edited], ∀ b ∈ [[0, 1], [1, 30], [30, 1], [31, 1]], AskedIn s 0x30 b)
    ∧ (∀ s ∈ [State.reset], ∀ b ∈ [[15, 255], [16, 1], [0, 16]], AskedIn s 0x40 b)
    ∧ State.reset.admission.rules.length = 16 :=
  ⟨askedIn_of_check (by decide +kernel), askedIn_of_check (by decide +kernel), by decide⟩

/-- READ_QUEUES with a frame in UQ, READ_NOTICES with a due and a sent record. -/
theorem test_witness_ReadQueuesAndNoticesReportEverything :
    (∀ s ∈ [{ State.reset with queues := { State.reset.queues with
        uq := { State.reset.queues.uq with frames := [{ zeros 64 with band := some .normal }] } } }],
      (∀ b ∈ [[]], AskedIn s 0x50 b) ∧ ∀ f ∈ s.queues.uq.frames, f.band ≠ none)
    ∧ (∀ s ∈ [State.reset, { State.reset with notices := exampleNotices }], ∀ b ∈ [[]], AskedIn s 0x60 b) := by
  refine ⟨?_, askedIn_of_check (by decide +kernel)⟩
  intro s hs
  rw [List.mem_singleton] at hs
  subst hs
  exact ⟨askedIn_of_check (ss := [_]) (by decide +kernel) _ (List.mem_singleton.2 rfl), by decide⟩

/-- Every set, an unknown set, a station out of range on both sides, and one with no record. -/
theorem test_witness_ReadCountersReportsASet :
    ∀ s ∈ [edited], ∀ b ∈ [[0, 0, 0], [1, 0, 0], [2, 3, 0], [3, 0, 0], [4, 0, 0], [5, 0, 0], [6, 0, 0], [7, 0, 0],
      [2, 0, 0], [2, 31, 0], [2, 30, 0]], AskedIn s 0x70 b :=
  askedIn_of_check (by decide +kernel)

theorem test_witness_ClearReadsAndZeroesASet :
    (∀ s ∈ [edited], ∀ b ∈ [[0, 0, 1], [1, 0, 1], [2, 3, 1], [3, 0, 1], [4, 0, 1], [5, 0, 1], [6, 0, 1], [7, 0, 1],
      [0, 0, 2], [2, 0, 1], [2, 31, 1], [2, 30, 1]], HeldIn s 0x70 b) ∧ ((1 : Byte) ≠ 0 ∧ (2 : Byte) ≠ 0) :=
  ⟨heldIn_of_check (by decide +kernel), by decide⟩

/-- R198, R199: the clear of the AGENT set answers with the take of the request itself, 1, and zeroes it. -/
theorem test_clear_agent_reads_its_own_take :
    (match exec (.readCountersClear 0) (State.giving (State.leased State.reset) (entryOf 0x70 [5, 0, 1])) with
     | .next t => t.agent.counters == {} &&
        (t.agent.output.map fun r => (r.bytes.drop 24).take 16) == [[5, 0, 1, 0, 0, 0, 0, 0, 0, 0, 0, 7, 0, 0, 0, 1]]
     | _ => false) = true := by decide +kernel

/-- Another session's lease. -/
def elsewhere : State := { State.reset with agent := { lease := some { lease with tag := 8 } } }

/-- CLAIM with no holder, from the holder, and with another holder, at durations 0, 1 and 255. -/
theorem test_witness_ClaimGrantsRenewsOrRefuses :
    (∀ s ∈ [State.reset, elsewhere], ∀ b ∈ [[0], [1], [255]], AskedIn s 0x02 b)
    ∧ (∀ s ∈ [State.reset], ∀ b ∈ [[0], [1], [255]], HeldIn s 0x02 b) :=
  ⟨askedIn_of_check (by decide +kernel), heldIn_of_check (by decide +kernel)⟩

theorem test_witness_ReleaseAndResetDevice :
    (∀ s ∈ [edited, armed], ∀ b ∈ [[]], HeldIn s 0x03 b) ∧ (∀ s ∈ [elsewhere], ∀ b ∈ [[]], AskedIn s 0x03 b)
    ∧ ¬ FromHolder (State.giving elsewhere (entryOf 0x03 [])) (entryOf 0x03 [])
    ∧ (∀ s ∈ [State.reset], ∀ b ∈ [[]], HeldIn s 0x04 b) :=
  ⟨heldIn_of_check (by decide +kernel), askedIn_of_check (by decide +kernel),
    fun h => absurd h.2 (by decide +kernel), heldIn_of_check (by decide +kernel)⟩

/-- An empty input list; a full output list; a SOFT reset that waits. -/
theorem test_witness_NoTakeWithoutItsConditions :
    requestOf (.identify 0) = some (0, 0x01, .read) ∧ State.reset.resetRun = none ∧ State.reset.agent.input = []
    ∧ 4 ≤ ({ State.reset with agent := { output := List.replicate 4 ⟨[], false⟩ } } : State).agent.output.length
    ∧ ({ State.reset with agent := { softReset := true } } : State).agent.softReset = true := by decide

/-- What the statements about the agent's early steps share. -/
def requestsCheck (s : State) (e : InputEntry) (code : Byte) (body : List Byte) : Bool :=
  s.resetRun.isNone && s.agent.input.head? == some e && s.agent.output.length < 4 && !s.agent.softReset
    && envCode e.bytes == code && envBodyLength e.bytes ≤ 480 && envBodyLength e.bytes ≤ bodyPresent e.bytes
    && envBody e.bytes == body

theorem requests_of_check {c : Instr} {dt : Nat} {k : PermissionClass} {s : State} {e : InputEntry} {code : Byte}
    {body : List Byte} (hc : requestOf c = some (dt, code, k)) (hb : bodySpells c body = true)
    (h : requestsCheck s e code body = true) : Requests c dt k e body ∧ Taken s e := by
  simp only [requestsCheck, Bool.and_eq_true, Option.isNone_iff_eq_none, beq_iff_eq, decide_eq_true_eq,
    Bool.not_eq_true'] at h
  obtain ⟨⟨⟨⟨⟨⟨⟨h1, h2⟩, h3⟩, h4⟩, h5⟩, h6⟩, h7⟩, h8⟩ := h
  exact ⟨⟨code, hc, ⟨h5, h6, h7, h8⟩, hb⟩, ⟨h1, h2, h3, h4⟩⟩

/-- A write from the trunk, a write from a session that does not hold the lease, an acknowledgement while another
holds it, a CLAIM from the trunk. -/
theorem test_witness_RefusedByClassReachesNoBlock :
    (let e := entryFrom (.trunk 3) 0x21 []
     Requests (.startTrunk 0) 0 .write e [] ∧ Taken (State.giving State.reset e) e ∧ Enveloped e
      ∧ FirstAsked (State.giving State.reset e) e
      ∧ refusedByClass (State.giving State.reset e) e .write = some 0x03
      ∧ refusedByClass (State.giving State.reset e) e .lease = some 0x03)
    ∧ (let e := entryOf 0x61 [0, 0]
       Requests (.ackNotices 0) 0 .ack e [0, 0] ∧ Taken (State.giving elsewhere e) e ∧ Enveloped e
        ∧ FirstAsked (State.giving elsewhere e) e
        ∧ refusedByClass (State.giving elsewhere e) e .ack = some 0x04
        ∧ refusedByClass (State.giving elsewhere e) e .write = some 0x04) := by
  constructor
  · have h := requests_of_check (c := .startTrunk 0) (body := []) (e := entryFrom (.trunk 3) 0x21 [])
      (s := State.giving State.reset (entryFrom (.trunk 3) 0x21 [])) rfl rfl (by decide +kernel)
    have a := asked_of_check (s := State.giving State.reset (entryFrom (.trunk 3) 0x21 []))
      (e := entryFrom (.trunk 3) 0x21 []) (code := 0x21) (body := []) (by decide +kernel)
    exact ⟨h.1, h.2, a.2.1, a.2.2.1, by decide +kernel, by decide +kernel⟩
  · have h := requests_of_check (c := .ackNotices 0) (body := [0, 0]) (e := entryOf 0x61 [0, 0])
      (s := State.giving elsewhere (entryOf 0x61 [0, 0])) rfl rfl (by decide +kernel)
    have a := asked_of_check (s := State.giving elsewhere (entryOf 0x61 [0, 0]))
      (e := entryOf 0x61 [0, 0]) (code := 0x61) (body := [0, 0]) (by decide +kernel)
    exact ⟨h.1, h.2, a.2.1, a.2.2.1, by decide +kernel, by decide +kernel⟩

/-- A request whose body length field is changed. -/
def misfit (code : Byte) (body : List Byte) (high low : Byte) : InputEntry :=
  let e := entryOf code body
  { e with bytes := (e.bytes.set 22 high).set 23 low }

/-- A request row's frame with 37 of 36 bytes, with 481, and a READ_COUNTERS with 2; the code 0x7F with the same and
with 36 bytes, which step 5 passes. -/
theorem test_witness_RefusedByClassReachesNoBlock_lengths :
    (∀ e ∈ [misfit 0x21 [] 0 37, misfit 0x21 [] 1 0xE1, misfit 0x70 [] 0 2, misfit 0x7F [] 0 37],
      (Taken (State.giving State.reset e) e ∧ Enveloped e ∧ FirstAsked (State.giving State.reset e) e)
        ∧ FailsStepFive e)
    ∧ (∀ e ∈ [misfit 0x7F [] 0 36], (Taken (State.giving State.reset e) e ∧ Enveloped e
        ∧ FirstAsked (State.giving State.reset e) e) ∧ ¬ FailsStepFive e ∧ envCode e.bytes = 0x7F)
    ∧ NamesNoRequest 0x7F := by
  refine ⟨fun e he => ?_, fun e he => ?_, ?_⟩
  · have h := (show ∀ e ∈ [misfit 0x21 [] 0 37, misfit 0x21 [] 1 0xE1, misfit 0x70 [] 0 2, misfit 0x7F [] 0 37],
      passedOnCheck (State.giving State.reset e) e = true ∧ (480 < envBodyLength e.bytes
        ∨ e.bytes.length - 28 < envBodyLength e.bytes ∨ (envCode e.bytes = 0x70 ∧ envBodyLength e.bytes < 3)) by
      decide +kernel) e he
    exact ⟨passedOn_of_check h.1, h.2⟩
  · have h := (show ∀ e ∈ [misfit 0x7F [] 0 36], passedOnCheck (State.giving State.reset e) e = true
        ∧ ¬ (480 < envBodyLength e.bytes ∨ e.bytes.length - 28 < envBodyLength e.bytes
          ∨ (envCode e.bytes = 0x70 ∧ envBodyLength e.bytes < 3)) ∧ envCode e.bytes = 0x7F by decide +kernel) e he
    exact ⟨passedOn_of_check h.1, h.2⟩
  · intro c dt code k h
    cases c <;> simp [requestOf] at h <;> obtain ⟨-, rfl, -⟩ := h <;> decide

/-- Bodies one byte off the size of the request: WRITE_RULES with a byte over, SET_STATION with no action, with action
5, and too short for its action; the requests are allowed by their class. -/
theorem test_witness_RefusedByClassReachesNoBlock_sizes :
    (∀ b ∈ [[0, 1, 0]], HeldIn State.reset 0x41 b ∧ bodyFits (.writeRules 0) b = false)
    ∧ (∀ b ∈ [[3], [3, 5], [3, 0, 0, 0, 0, 0, 0]], HeldIn State.reset 0x33 b ∧ NamesNoAction b
        ∧ bodyFits (.setStationMute 0) b = false)
    ∧ (∀ b ∈ [[3, 1, 0, 0, 0, 0, 0]], HeldIn State.reset 0x33 b ∧ bodySpells (.setStationMute 0) b = true
        ∧ bodyFits (.setStationMute 0) b = false)
    ∧ refusedByClass (State.giving (State.leased State.reset) (entryOf 0x33 [3])) (entryOf 0x33 [3]) .write = none := by
  refine ⟨fun b hb => ⟨?_, ?_⟩, fun b hb => ⟨?_, ?_⟩, fun b hb => ⟨?_, ?_⟩, by decide +kernel⟩
  · exact heldIn_of_check (ss := [_]) (bodies := [[0, 1, 0]]) (by decide +kernel) _ (List.mem_singleton.2 rfl) b hb
  · revert b; decide
  · exact heldIn_of_check (ss := [_]) (bodies := [[3], [3, 5], [3, 0, 0, 0, 0, 0, 0]]) (by decide +kernel) _
      (List.mem_singleton.2 rfl) b hb
  · revert b; unfold NamesNoAction; decide
  · exact heldIn_of_check (ss := [_]) (bodies := [[3, 1, 0, 0, 0, 0, 0]]) (by decide +kernel) _
      (List.mem_singleton.2 rfl) b hb
  · revert b; decide

/-- A wrong version, a wrong kind, tag 0: none passes the envelope; and a session of another origin. -/
theorem test_witness_EnvelopeRefusalsTouchNoSession :
    (∀ f ∈ [frameOf 2 1 7 0x01 [], frameOf 1 2 7 0x01 [], frameOf 1 1 0 0x01 []],
      Requests (.identify 0) 0 .read ⟨.uplink, f⟩ [] ∧ Taken (State.giving State.reset ⟨.uplink, f⟩) ⟨.uplink, f⟩
      ∧ ¬ Enveloped ⟨.uplink, f⟩)
    ∧ (let e := entryFrom (.trunk 3) 0x01 []
       let s := State.giving (State.leased State.reset) e
       Requests (.identify 0) 0 .read e [] ∧ Taken s e ∧ sessionOf s e = some session ∧ session.origin ≠ e.origin) := by
  constructor
  · intro f hf
    have h := (show ∀ f ∈ [frameOf 2 1 7 0x01 [], frameOf 1 2 7 0x01 [], frameOf 1 1 0 0x01 []],
      requestsCheck (State.giving State.reset ⟨.uplink, f⟩) ⟨.uplink, f⟩ 0x01 [] = true
        ∧ ¬ (envVersion f = 1 ∧ envKind f = 1 ∧ envTag f ≠ 0) by decide +kernel) f hf
    have r := requests_of_check (c := .identify 0) rfl rfl h.1
    exact ⟨r.1, r.2, h.2⟩
  · have r := requests_of_check (c := .identify 0) (body := []) (e := entryFrom (.trunk 3) 0x01 [])
      (s := State.giving (State.leased State.reset) (entryFrom (.trunk 3) 0x01 [])) rfl rfl (by decide +kernel)
    exact ⟨r.1, r.2, by decide +kernel, by decide⟩

/-- The manager's session with the answer to sequence 1 stored. -/
def answeredSession : Session := { session with last := some (1, [0xAA]) }

theorem test_witness_ReplayIsNotExecuted :
    let e := entryOf 0x04 []
    let s := State.giving { State.reset with agent := { sessions := [answeredSession], lease := some lease } } e
    Requests (.resetDevice 0) 0 .write e [] ∧ Taken s e ∧ Enveloped e ∧ sessionOf s e = some answeredSession
      ∧ answeredSession.origin = e.origin ∧ answeredSession.last = some (envSeq e.bytes, [0xAA]) := by
  have r := requests_of_check (c := .resetDevice 0) (body := []) (e := entryOf 0x04 [])
    (s := State.giving { State.reset with agent := { sessions := [answeredSession], lease := some lease } }
      (entryOf 0x04 [])) rfl rfl (by decide +kernel)
  exact ⟨r.1, r.2, by unfold Enveloped; decide +kernel, by decide +kernel, by decide, by decide +kernel⟩

/-- A session table with room, and a full one whose holder has been idle longest. -/
def tables : List (List Session) :=
  [[], [session], [{ session with tag := 1 }, { session with tag := 2, lastTake := 5 },
                   { session with tag := 3, lastTake := 5 }, { session with tag := 4, lastTake := 9 }]]

/-- The trunk request of station 3 with tag 9, which no session of `tables` has. -/
def strange : InputEntry := ⟨.trunk 3, frameOf 1 1 9 0x01 []⟩

/-- The first session of the table holds the lease. -/
def State.tabled (table : List Session) : State :=
  let held : Option Lease := table.head?.map (fun x => { lease with tag := x.tag })
  State.giving { State.reset with agent := { sessions := table, lease := held } } strange

theorem test_witness_EvictionSparesTheHolder :
    ∀ table ∈ tables, Requests (.identify 0) 0 .read strange [] ∧ Taken (State.tabled table) strange
      ∧ Enveloped strange ∧ sessionOf (State.tabled table) strange = none ∧ SessionLaw (State.tabled table) := by
  intro table ht
  have h := (show ∀ table ∈ tables, requestsCheck (State.tabled table) strange 0x01 [] = true
      ∧ (envVersion strange.bytes = 1 ∧ envKind strange.bytes = 1 ∧ envTag strange.bytes ≠ 0)
      ∧ sessionOf (State.tabled table) strange = none ∧ (State.tabled table).agent.sessions.length ≤ 4
      ∧ ((State.tabled table).agent.sessions.map fun x => (x.address, x.tag)).Nodup
      ∧ ((State.tabled table).agent.lease.all fun l =>
          (State.tabled table).agent.sessions.any fun x => x.address == l.address && x.tag == l.tag) = true by
    decide +kernel) table ht
  have r := requests_of_check (c := .identify 0) (body := []) rfl rfl h.1
  refine ⟨r.1, r.2, h.2.1, h.2.2.1, ⟨h.2.2.2.1, h.2.2.2.2.1, ?_⟩⟩
  intro l hl
  have q := h.2.2.2.2.2
  rw [hl] at q
  simpa using q

/-- DX with room, and with no free cell. -/
theorem test_witness_TrunkAnswerGoesToDX :
    ∀ s ∈ [State.reset, { State.reset with queues := { free := 0 } }],
      Asked (State.giving s (entryFrom (.trunk 3) 0x01 [])) (entryFrom (.trunk 3) 0x01 []) 0x01 []
        ∧ (entryFrom (.trunk 3) 0x01 []).origin = .trunk 3 ∧ s.engine.phase ≠ some .floor := by
  intro s hs
  have h := (show ∀ s ∈ [State.reset, { State.reset with queues := { free := 0 } }],
    askedCheck (State.giving s (entryFrom (.trunk 3) 0x01 [])) (entryFrom (.trunk 3) 0x01 []) 0x01 [] = true
      ∧ s.engine.phase ≠ some .floor by decide +kernel) s hs
  exact ⟨asked_of_check h.1, rfl, h.2⟩

/-- START_TRUNK with an empty and with a filled ACTIVE and in RUNNING; STOP_TRUNK in each trunk state and with a call, a
head frame, a marker and nothing in flight. -/
theorem test_witness_StartAndStopTrunk :
    (∀ s ∈ [State.reset, running .stopped none none, running .running (some .floor) none], ∀ b ∈ [[]], HeldIn s 0x21 b)
    ∧ (∀ s ∈ [State.reset, running .starting none none, running .blocked none none,
        running .stopping (some .awaiting) (some 0), running .running (some .awaiting) (some 0),
        onAir .frame .running .sending (some 1), onAir .frame .running .floor none,
        onAir (.marker ⟨0x2C, 3, 2⟩) .running .calling (some 0), running .running (some .floor) none],
        ∀ b ∈ [[]], HeldIn s 0x22 b) :=
  ⟨heldIn_of_check (by decide +kernel), heldIn_of_check (by decide +kernel)⟩

/-- Station numbers 0, 1, 30 and 31, a group address, a station enrolled already, one in use. -/
theorem test_witness_EnrolAndWithdrawStation :
    (∀ s ∈ [edited], ∀ b ∈ [[0, 0, 0, 0, 0, 0, 0, 0], [31, 0, 0, 0, 0, 0, 0, 0], [1, 1, 1, 0, 0, 0, 0, 5],
      [3, 0, 0, 0, 0, 0, 0, 0], [1, 1, 2, 0, 0, 0, 0, 5], [30, 0, 1, 0, 0, 0, 0, 0]], HeldIn s 0x31 b)
    ∧ (∀ s ∈ [edited, armed, running .stopped none none], ∀ b ∈ [[0], [31], [30], [3]], HeldIn s 0x32 b) :=
  ⟨heldIn_of_check (by decide +kernel), heldIn_of_check (by decide +kernel)⟩

/-- Each action, actions 0 and 5, and station numbers 0, 3, 30 and 31. -/
theorem test_witness_SetStationChangesOneRecord :
    ∀ s ∈ [edited], ∀ b ∈ [[3, 1, 0, 0, 0, 0, 0, 0], [3, 2, 0, 0, 0, 0, 0, 0], [3, 3, 2, 0, 0, 0, 0, 9],
      [3, 3, 1, 0, 0, 0, 0, 9], [3, 4, 0, 0, 0, 0, 0, 0], [3, 0, 0, 0, 0, 0, 0, 0], [3, 5, 0, 0, 0, 0, 0, 0],
      [0, 1, 0, 0, 0, 0, 0, 0], [31, 2, 0, 0, 0, 0, 0, 0], [30, 4, 0, 0, 0, 0, 0, 0]], HeldIn s 0x33 b :=
  heldIn_of_check (by decide +kernel)

/-- A rule item as written that passes, and one whose direction is out of range. -/
def ruleItem (direction : Byte) : List Byte := [3, direction, 1] ++ List.replicate 14 0xFF ++ [4]

/-- WRITE_RULES at both ends of the table, past its end, and with a rule out of range; SET_DEFAULTS at 2 and 3. -/
theorem test_witness_WriteRulesAndSetDefaults :
    (∀ s ∈ [State.reset], ∀ b ∈ [[15, 1] ++ ruleItem 0, [16, 0], [15, 2] ++ ruleItem 0 ++ ruleItem 0,
      [0, 2] ++ ruleItem 2 ++ ruleItem 3, [0, 16] ++ (List.replicate 16 (ruleItem 2)).flatten], HeldIn s 0x41 b)
    ∧ RuleInRange (ruleItem 0) ∧ RuleInRange (ruleItem 2) ∧ ¬ RuleInRange (ruleItem 3)
    ∧ State.reset.admission.rules.length = 16
    ∧ (∀ s ∈ [State.reset], ∀ b ∈ [[3, 0], [0, 3], [2, 1]], HeldIn s 0x42 b) :=
  ⟨heldIn_of_check (by decide +kernel), by unfold RuleInRange; decide, by unfold RuleInRange; decide,
    by unfold RuleInRange; decide, by decide, heldIn_of_check (by decide +kernel)⟩

/-- The limits on both sides of each bound, an occupancy above the limit, an unknown queue. -/
theorem test_witness_SetQueueLimitsAndFlushQueue :
    let held := { State.reset with queues := { State.reset.queues with
      dx := { State.reset.queues.dx with frames := List.replicate 2 (zeros 1000) }, free := 496 } }
    (∀ s ∈ [held], ∀ b ∈ [[3, 0, 1, 0, 12], [0, 0, 0, 0, 12], [0, 1, 1, 0, 12], [0, 0, 2, 0, 11], [0, 0, 2, 2, 1],
      [0, 0, 1, 2, 0], [0, 0, 2, 0, 15], [0, 0, 2, 0, 16], [1, 1, 0, 2, 0], [2, 0, 1, 0, 12]], HeldIn s 0x51 b)
    ∧ (∀ s ∈ [held], ∀ b ∈ [[0], [1], [2], [3]], HeldIn s 0x52 b) :=
  ⟨heldIn_of_check (by decide +kernel), heldIn_of_check (by decide +kernel)⟩

theorem test_witness_AckNoticesRemovesWhatItCovers :
    (∀ s ∈ [{ State.reset with notices := exampleNotices }], ∀ b ∈ [[0, 29], [0, 18], [0, 17]], AskedIn s 0x61 b)
    ∧ (∀ s ∈ [{ State.reset with notices := exampleNotices }], ∀ b ∈ [[0, 29]], HeldIn s 0x61 b)
    ∧ (State.giving State.reset (entryOf 0x61 [0, 29])).agent.lease = none :=
  ⟨askedIn_of_check (by decide +kernel), heldIn_of_check (by decide +kernel), rfl⟩

/-- A rule that decides, and a table in which none matches. -/
theorem test_witness_FirstMatchingRuleDecides :
    exampleRules.rules[1]? = some { enabled := true, direction := .up, origin := some 4, action := .expedite }
    ∧ ((exampleRules.rules.take 1).all fun r => r.type == some 0xA7D1) = true
    ∧ frameType (frameTo 0x020000000020 0x0800) ≠ 0xA7D1
    ∧ (∀ r ∈ ({} : Admission).rules, r.enabled ≠ true) := by decide

/-- The example's tables with the link UP. -/
def admitting : State := { State.reset with uplink := { link := true }, admission := exampleRules }

/-- A frame of 64 bytes to an address with a type, from a station or the uplink. -/
def presented (dst : Addr) (type : Nat) (station : Option Nat) : Presented :=
  ⟨frameTo dst type ++ List.replicate 50 0, station⟩

/-- 05 section 5.6, E1 to E3 and E8: the expedited frame joins UQ's expedited band, the broadcast is dropped, the
management frame reaches the agent with its station, the uplink frame joins DN. -/
theorem test_admission_actions :
    ((admitting.present (presented 0x020000000020 0x0800 (some 4))).queues.uq.frames.map Frame.band
      = [some .expedited])
    ∧ (admitting.present (presented 0xFFFFFFFFFFFF 0x0806 none)).queues = admitting.queues
    ∧ ((admitting.present (presented 0x025A4A03102E 0xA7D1 (some 9))).agent.input.map InputEntry.origin = [.trunk 9])
    ∧ ((admitting.present (presented 0x020000000031 0x0800 none)).queues.dn.frames.map Frame.abortCount
      = [some 0]) := by decide +kernel

/-- Every name with no phase; DX with a frame already in FLOOR. -/
theorem test_witness_EnqueueChecksInOrder :
    (State.reset.engine.phase ≠ some .floor)
    ∧ ({ running .running (some .floor) none with queues :=
        { dx := { frames := [zeros 64], frameLimit := 32, cellLimit := 96 } } } : State).queues.dx.frames ≠ [] := by
  decide

/-- Every outcome can be reported. -/
theorem test_witness_ReportJudgesByOutcome :
    ∀ o ∈ [CallOutcome.passed, .answered, .missed, .stray, .collided, .excess, .overrun],
      (⟨o, 0, 0, 0⟩ : Report).outcome = o := by decide

theorem test_witness_OutcomeEndsTheCall :
    ∀ s ∈ [running .running (some .awaiting) (some 0), running .stopping (some .receiving) (some 0)],
      s.engine.index = some 0 ∧ s.store.active.entries[0]? = some ⟨3, 2, none, .expFirst⟩
        ∧ s.station? 3 = some { station := 3 } := by decide

/-- A station entry, a head entry and no entry left, with the floor ahead and past. -/
theorem test_witness_EntryStartCallsSkipsOrEnds :
    (let s := running .running (some .turnaround) none
     s.store.active.entries[0]? = some ⟨3, 2, none, .expFirst⟩ ∧ s.station? 3 = some { station := 3 })
    ∧ (let s := running .running (some .turnaround) (some 0)
       s.store.active.entries[1]? = some ⟨0, 2, none, .expFirst⟩ ∧ s.queues.trunkSlot = none)
    ∧ (let s := running .running (some .turnaround) (some 1)
       s.store.active.entries[2]? = none ∧ s.now < 0 + s.store.active.header.floor * 100)
    ∧ (let s := { running .running (some .turnaround) (some 1) with now := 150000 }
       s.store.active.entries[2]? = none ∧ ¬ s.now < 0 + s.store.active.header.floor * 100) := by decide

/-- FLOOR with nothing on air and a frame in DX; an empty DX; not idle. -/
theorem test_witness_FloorFillTakesWhatFits :
    let s : State := { running .running (some .floor) none with queues :=
      { dx := { frames := [zeros 64], frameLimit := 32, cellLimit := 96 } } }
    s.engine.roundStart = some 0 ∧ s.store.active.header.floor ≠ 0 ∧ s.queues.trunkSlot = none
      ∧ (s.engine.trunk = .running ∧ s.engine.phase = some .floor ∧ s.engine.fillSuspended = false ∧ s.line.tx = none
          ∧ s.engine.gap = none) ∧ s.queues.dx.frames = [zeros 64]
      ∧ (running .running (some .floor) none).queues.dx.frames = []
      ∧ (running .running (some .awaiting) (some 0)).engine.phase ≠ some .floor := by decide

/-- The floor is at 150,000 and a frame of 64 bytes takes 6,720 with its gap: in FLOOR with that frame at the front of
DX. -/
def fillAt (now : Nat) : State :=
  { running .running (some .floor) none with
    now := now
    queues := { dx := { frames := [zeros 64], frameLimit := 32, cellLimit := 96 }, free := 511 } }

/-- R58: at the moment that just fits the frame is taken, one unit of the clock later it stays. -/
theorem test_witness_FloorFillTakesWhatFits_boundary :
    (∀ now ∈ [143280, 143281], let s := fillAt now
      s.engine.roundStart = some 0 ∧ s.store.active.header.floor ≠ 0 ∧ s.queues.trunkSlot = none
        ∧ s.engine.trunk = .running ∧ s.engine.phase = some .floor ∧ s.engine.fillSuspended = false
        ∧ s.line.tx = none ∧ s.engine.gap = none ∧ s.queues.dx.frames = [zeros 64])
    ∧ 143280 + ((64 + 8) * 8 + 96) * 10 = 0 + 1500 * 100
    ∧ (fillAt 143280).considerFill.line.tx = some ⟨.frame, 149040⟩
    ∧ (fillAt 143281).considerFill = fillAt 143281 := by decide +kernel

theorem test_witness_MarkerEndLeadsOn :
    ∀ s ∈ [onAir (.marker ⟨0x1C, 1, 0⟩) .running .roundMark none, onAir (.marker ⟨0x1C, 1, 0⟩) .running .calling (some 0)],
      s.resetRun = none ∧ s.line.tx = some ⟨.marker ⟨0x1C, 1, 0⟩, 480⟩
        ∧ (s.engine.phase = some .roundMark ∨ (s.engine.phase = some .calling ∧ s.engine.index = some 0
            ∧ s.store.active.entries[0]? = some ⟨3, 2, none, .expFirst⟩)) := by decide

/-- R212, 11 section 11.6: a marker from 0 to 480 begins with the lead-in 1100 1100 1111 0000, and TK_TXD carries
nothing after its last bit. -/
theorem test_marker_bits :
    let s := onAir (.marker ⟨0x1C, 1, 0⟩) .running .roundMark none
    ((List.range 16).map fun i => s.tkTxd (10 * i + 9))
      = [true, true, false, false, true, true, false, false, true, true, true, true, false, false, false, false].map some
    ∧ (s.tkTxd 479).isSome = true ∧ s.tkTxd 480 = none := by decide

/-- R93, 11 section 11.6: a frame of 64 bytes from 0 to 5760 begins with 1010 1010; its delimiter is 1010 1011. -/
theorem test_frame_bits :
    let s := { onAir .frame .running .sending (some 1) with line := { tx := some ⟨.frame, 5760⟩ } }
    ((List.range 8).map fun i => s.tkTxd (10 * i)) = [true, false, true, false, true, false, true, false].map some
    ∧ ((List.range 8).map fun i => s.tkTxd (560 + 10 * i))
        = [true, false, true, false, true, false, true, true].map some
    ∧ s.tkTxd 640 = some false ∧ (s.tkTxd 5759).isSome = true ∧ s.tkTxd 5760 = none := by decide +kernel

theorem test_witness_HeadFrameEndReleasesItsCells :
    ∀ s ∈ [onAir .frame .stopping .sending (some 1), onAir .frame .running .sending (some 1),
        onAir .frame .running .floor none],
      s.resetRun = none ∧ s.line.tx = some ⟨.frame, 480⟩ ∧ s.queues.trunkSlot = some ⟨zeros 64, .dn⟩
        ∧ (s.engine.trunk = .stopping ∨ s.engine.phase = some .floor ∨ (s.engine.phase = some .sending
            ∧ s.engine.index = some 1 ∧ s.store.active.entries[1]? = some ⟨0, 2, none, .expFirst⟩)) := by decide

theorem test_witness_GapEndTakesTheNextFrame :
    (let s := running .running (some .sending) (some 1)
     s.resetRun = none ∧ s.engine.gap = some 40 ∧ s.queues.trunkSlot = none ∧ s.engine.phase = some .sending
      ∧ s.engine.index = some 1 ∧ s.store.active.entries[1]? = some ⟨0, 2, none, .expFirst⟩)
    ∧ (let s := running .running (some .floor) none
       let s' := { s with engine := { s.engine with gap := some 40 } }
       s'.resetRun = none ∧ s'.engine.gap = some 40 ∧ s'.queues.trunkSlot = none ∧ s'.engine.phase = some .floor) := by
  decide

theorem test_witness_WindowsTurnaroundAndFloorExpire :
    (∀ p ∈ [Phase.awaiting, .continuing, .closing, .turnaround],
      let s := running .running (some p) (some 0)
      s.resetRun = none ∧ s.engine.timer = some 40 ∧ s.engine.phase = some p)
    ∧ (∀ suspended : Bool,
      let s := running .running (some .floor) none
      let s' := { s with engine := { s.engine with fillSuspended := suspended } }
      s'.resetRun = none ∧ s'.engine.trunk = .running ∧ s'.engine.phase = some .floor ∧ s'.line.tx = none
        ∧ s'.store.active.header.floor ≠ 0 ∧ s'.engine.roundStart = some 0
        ∧ s'.engine.fillSuspended = suspended) := by decide

theorem test_witness_QuietIntervalEndsTheWait :
    ∀ s ∈ [running .starting none none, running .blocked none none, running .running (some .quieting) (some 0),
        { running .running (some .quieting) none with engine :=
          { (running .running (some .quieting) none).engine with toBoundary := true } },
        running .running (some .floor) none],
      s.resetRun = none ∧ s.line.burst = none ∧ s.engine.quietFrom = some 10 ∧ s.engine.gap = none := by decide

/-- A free line, and one whose echo allowance is over. -/
theorem test_witness_CarrierOnBeginsABurst :
    (let s := running .running (some .awaiting) (some 0)
     s.resetRun = none ∧ s.line.tx = none ∧ s.line.burst = none ∧ s.line.echo = none)
    ∧ (let s := inEcho false .awaiting
       s.line.tx = none ∧ s.line.burst = none ∧ s.line.echo = some { ends := 80, cut := false } ∧ 80 ≤ s.now + 80) := by
  decide

/-- A burst outside a call and one of an answer, by each class that bits can give. -/
theorem test_witness_CarrierOffDeliversTheClass :
    (inBurst .turnaround none).engine.phase ≠ some .receiving
    ∧ (let s := inBurst .receiving (some 0)
       s.resetRun = none ∧ s.line.burst = some { start := 0 } ∧ s.engine.phase = some .receiving
        ∧ s.engine.index = some 0 ∧ s.store.active.entries[0]? = some ⟨3, 2, none, .expFirst⟩)
    ∧ classifyBits (bitsOfBytes [0x33, 0x0F, 0x3C, 3, 0, 0xC0]) = .marker ⟨0x3C, 3, 0⟩
    ∧ classifyBits [] = .noise
    ∧ classifyBits (bitsOfBytes [0x55, 0x55, 0x55, 0x55, 0x55, 0x55, 0x55, 0xD5, 1]) = .badFrame .length := by decide

/-- R86 to R88: a burst by its bits. -/
def burstOf (bytes : List Byte) : Burst := { start := 0, bits := bitsOfBytes bytes }

/-- The bits of the statement's classes: a collided and an overrun burst; the markers of 04 section 4.7 and one each
whose check, A or B is wrong; a preamble whose delimiter ends at bits 32, 64 and 65; a frame of 64 bytes with its FCS
and a half byte after it, and with a wrong FCS. -/
theorem test_witness_CarrierOffDeliversTheClass_bits :
    ({ burstOf [] with collision := true }.classify = .noise ∧ { burstOf [] with overrun := true }.classify = .noise)
    ∧ ([[0x33, 0x0F, 0x1C, 41, 7, 0xB3], [0x33, 0x0F, 0x2C, 14, 1, 0xC4], [0x33, 0x0F, 0x3C, 5, 0, 0xBE]].map
        fun l => (burstOf l).classify) = [.marker ⟨0x1C, 41, 7⟩, .marker ⟨0x2C, 14, 1⟩, .marker ⟨0x3C, 5, 0⟩]
    ∧ ([[0x33, 0x0F, 0x3C, 5, 0, 0xBF], [0x33, 0x0F, 0x2C, 31, 1, 0xB3], [0x33, 0x0F, 0x2C, 14, 9, 0xBC],
        [0x33, 0x0F, 0x3C, 5, 1, 0xBD]].all fun l => (burstOf l).classify == .badMarker) = true
    ∧ (burstOf [0x55, 0x55, 0x55, 0xD5]).classify = .badFrame .length
    ∧ (burstOf [0x55, 0x55, 0x55, 0x55, 0x55, 0x55, 0x55, 0xD5]).classify = .badFrame .length
    ∧ { burstOf [] with bits := bitsOfBytes [0x55, 0x55, 0x55, 0x55, 0x55, 0x55, 0x55, 0x55] ++ [true] }.classify
        = .noise := by decide

theorem test_witness_CarrierOffDeliversTheClass_frames :
    let frame := goodFrame
    ({ burstOf [] with bits := bitsOfBytes ([0x55, 0x55, 0x55, 0xD5] ++ frame) ++ [true, false, true] }.classify
      = .validFrame frame)
    ∧ (burstOf ([0x55, 0x55, 0x55, 0xD5] ++ frame.set 30 1)).classify = .badFrame .fcs := by decide +kernel

theorem test_witness_CollisionCutsOrMarks :
    (∀ p ∈ [Phase.roundMark, .calling],
      (onAir (.marker ⟨0x2C, 3, 2⟩) .running p (some 0)).line.tx = some ⟨.marker ⟨0x2C, 3, 2⟩, 480⟩)
    ∧ (∀ s ∈ [onAir .frame .stopping .sending (some 1), onAir .frame .running .sending (some 1),
        onAir .frame .running .floor none],
      s.resetRun = none ∧ s.line.tx = some ⟨.frame, 480⟩ ∧ s.queues.trunkSlot = some ⟨zeros 64, .dn⟩)
    ∧ (∀ p ∈ [Phase.receiving, .turnaround],
      (inBurst p (some 0)).line.tx = none ∧ (inBurst p (some 0)).line.burst = some { start := 0 })
    ∧ (∀ p ∈ [Phase.awaiting, .continuing, .closing, .turnaround, .quieting, .floor, .sending],
      let s := running .running (some p) (some 0)
      s.line.tx = none ∧ s.line.burst = none ∧ s.line.echo = none ∧ s.engine.phase = some p)
    ∧ (let s := inEcho false .awaiting
       s.line.tx = none ∧ s.line.burst = none ∧ s.line.echo = some { ends := 80, cut := false } ∧ s.now + 79 < 80
        ∧ 80 ≤ s.now + 80) := by decide

theorem test_witness_OverrunAndEchoAllowanceEnd :
    (∀ p ∈ [Phase.receiving, .quieting, .turnaround, .floor],
      (inBurst p (some 0)).resetRun = none ∧ (inBurst p (some 0)).line.burst = some { start := 0 })
    ∧ (∀ cut rose : Bool, ∀ p ∈ [Phase.awaiting, .continuing, .closing, .turnaround, .quieting, .floor, .sending],
      let s := { inEcho cut p with line := { echo := some { ends := 80, cut := cut, colRose := rose } } }
      s.resetRun = none ∧ s.line.echo = some { ends := 80, cut := cut, colRose := rose } ∧ s.now ≤ 80
        ∧ s.engine.phase = some p) := by decide

/-- R85, R89: TK_COL that rose in the allowance after a CALL and is still high at its end, with carrier off, is the
beginning of a burst of the answer, and gives COLLIDED, a strike. -/
theorem test_collision_after_the_allowance :
    (match exec (.echoAllowanceEnd false true)
        { inEcho false .awaiting with line := { echo := some { ends := 80, cut := false, colRose := true } } } with
     | .next t => t.engine.phase == some .quieting && (t.stations.map Station.strikeCount) == [1]
     | _ => false) = true := by decide +kernel

theorem test_witness_LinkEventsOpenAndTearDown :
    State.reset.resetRun = none ∧ State.reset.uplink.link = false
    ∧ (sending .response).uplink.link = true ∧ (sending .response).agent.softReset = false
    ∧ (let s := { sending .response with agent := { softReset := true } }
       s.resetRun = none ∧ s.uplink.link = true ∧ s.agent.softReset = true) := by decide

/-- R140: seven bytes of preamble and the delimiter open a frame, and so does one byte of it; half a byte before them,
an earlier delimiter and a missing byte of preamble open none. -/
theorem test_delimiter_opens :
    ([[5, 5, 5, 5, 5, 5, 5, 5, 5, 5, 5, 5, 5, 5, 5, 0xD], [5, 5, 5, 0xD], [7, 1, 5, 5, 5, 0xD]].all endsPreamble) = true
    ∧ ([[5, 0xD], [], [5, 5, 5, 5], [5, 5, 5, 5, 0xD], [5, 5, 5, 0xD, 5, 5, 5, 0xD], [0xD, 5, 5, 0xD]].any
        endsPreamble) = false := by decide

/-- R138, R140: the low four bits of each byte come first, and a half byte at the end is discarded. -/
theorem test_groups : bytesOfGroups [1, 2, 0xD, 0xC, 7] = [0x21, 0xCD] ∧ groupsOfBytes [0x21, 0xCD] = [1, 2, 0xD, 0xC] := by
  decide

/-- Groups that open a frame and groups that do not, as the statement says it. -/
theorem test_witness_ReceptionChecksInOrder_groups :
    let wire := fun l : List Byte => l.flatMap fun x => [x.extractLsb' 0 4, x.extractLsb' 4 4]
    (([5, 5, 5, 0xD] : List (BitVec 4)) = wire ([] ++ [0x55, 0xD5]))
    ∧ (¬ ∃ i : Nat, (([] : List Byte) ++ [0x55])[i]? = some 0x55 ∧ (([] : List Byte) ++ [0x55])[i + 1]? = some 0xD5)
    ∧ (∀ l, ([] : List (BitVec 4)) ≠ wire (l ++ [0x55, 0xD5]))
    ∧ (([] : List (BitVec 4)).length < 2 ∧ ([7] : List (BitVec 4)).length < 2) := by
  refine ⟨by decide, ?_, ?_, by decide⟩
  · rintro ⟨i, -, h⟩; simp at h
  · intro l h; simpa using congrArg List.length h

/-- A reception in progress, and the lengths on both sides of each bound. -/
theorem test_witness_ReceptionChecksInOrder :
    (∀ r : Bool, let s := { State.reset with uplink := { link := true, receiving := r } }
      s.resetRun = none ∧ s.uplink.link = true ∧ s.uplink.receiving = r)
    ∧ fcsCorrect goodFrame = true ∧ goodFrame.length = 64 ∧ frameType goodFrame = 0xA7D1
    ∧ frameDst goodFrame = State.reset.identity.factory := by decide +kernel

/-- A response that is no answer to a RESET_DEVICE, one that is, a notice, a UQ frame. -/
theorem test_witness_TransmissionEndTellsItsSource :
    (∀ r : Bool, let s := { sending .response with agent := { output := [⟨[1], r⟩], softReset := r } }
      s.resetRun = none ∧ s.uplink.tx = .sending .response 576 ∧ s.agent.output = [⟨[1], r⟩] ∧ s.agent.softReset = r)
    ∧ (sending (.notice 0 [1])).uplink.tx = .sending (.notice 0 [1]) 576
    ∧ (let s := { sending .forwarded with queues := { free := 511, uplinkSlot := some (zeros 64) } }
       s.uplink.tx = .sending .forwarded 576 ∧ s.queues.uplinkSlot = some (zeros 64)) := by decide

/-- R138, R143: a transmission of one byte, from 0 to 72: preamble 0x55, delimiter 0xD5, the byte, four bits a period, the
low four first; nothing after it. -/
theorem test_uplink_groups :
    let s := { sending (.notice 0 [0x21]) with uplink := { link := true, tx := .sending (.notice 0 [0x21]) 72 } }
    ((List.range 18).map fun i => s.ulTxd (4 * i + 3))
      = [5, 5, 5, 5, 5, 5, 5, 5, 5, 5, 5, 5, 5, 5, 5, 0xD, 1, 2].map some
    ∧ s.ulTxd 72 = none ∧ State.reset.ulTxd 0 = none := by decide

/-- The gap of a port whose link is UP, and of one whose link is DOWN. -/
theorem test_witness_ArbiterTakesInOrder :
    ∀ up : Bool, let s := { State.reset with uplink := { link := up, tx := .gap 672 } }
      s.resetRun = none ∧ s.uplink.tx = .gap 672 := by decide

theorem test_witness_LeaseAndSessionsEnd :
    (State.leased State.reset).resetRun = none ∧ (State.leased State.reset).agent.lease = some lease
    ∧ (let s := { State.reset with agent := { sessions := [session] } }
       s.agent.sessions.find? (fun y => y.address == manager && y.tag == 7) = some session ∧ s.agent.lease = none) := by
  decide

theorem test_witness_RetrySecondAndFlash :
    (let s := { State.reset with notices := exampleNotices }
     s.resetRun = none ∧ (s.notices.records.find? (fun x => x.number == 19)).map Notice.retry = some (some 5))
    ∧ (∀ trunk ∈ [TrunkState.starting, .stopping, .blocked],
      let s := { running trunk none none with led := { lit := true, stretch := some 5 } }
      s.resetRun = none ∧ s.led.stretch = some 5 ∧ s.engine.trunk = trunk) := by decide

/-- No reset, and a reset of each kind in progress. -/
theorem test_witness_ResetsBeginAndOverlap :
    State.reset.resetRun = none
    ∧ ∀ k ∈ [ResetKind.power, .pin, .soft], (resetting k none none).resetRun = some { kind := k, began := 0 } := by
  decide

/-- Resets that end, and resets that do not: a supply not settled, RSTN low. -/
theorem test_witness_ResetEndLeavesTheResetState :
    (resetting .soft none none).resetRun = some { kind := .soft, began := 0 }
    ∧ (resetting .pin none (some 7)).resetRun = some { kind := .pin, began := 0, released := some 7 }
    ∧ (resetting .power (some 9) none).resetRun = some { kind := .power, began := 0, settled := some 9 }
    ∧ (resetting .power none none).resetRun = some { kind := .power, began := 0 }
    ∧ ({ resetting .pin none (some 7) with pins := { rstn := false } } : State).pins.rstn = false := by decide

/-- A part with every law's things in it: DX full at its limit, a frame in UQ, a head frame on air, an armed PENDING,
an enrolled station, two sessions of which one holds the lease, a request, two notices. -/
def brimming : State :=
  { running .running (some .sending) (some 1) with
    pending := [.headFrameEnd]
    store := { active := { entries := entries }, pending := { entries := entries.reverse }, armed := true }
    line := { tx := some ⟨.frame, 5760⟩ }
    queues :=
      { free := 508
        dx := { frames := [zeros 64, zeros 64], frameLimit := 2, cellLimit := 12 }
        uq := { frames := [{ zeros 64 with band := some .normal }], frameLimit := 128, cellLimit := 256 }
        trunkSlot := some ⟨zeros 64, .dn⟩ }
    uplink := { link := true }
    agent := { input := [strange], sessions := [session, { session with tag := 8 }], lease := some lease }
    notices := exampleNotices }

theorem test_witness_brimming_steps : ∃ t, step brimming = .next t := ⟨_, rfl⟩

/-- A request of a new session, a retry, the lease's end and a link DOWN step too. -/
theorem test_witness_brimming_steps_on :
    ∀ c ∈ [Instr.identify 0, .retryTime 18, .leaseExpiry, .linkDown 0],
      ∃ t, step { brimming with pending := [c] } = .next t := by
  intro c h
  simp only [List.mem_cons, List.not_mem_nil, or_false] at h
  rcases h with rfl | rfl | rfl | rfl <;> exact ⟨_, rfl⟩

theorem test_witness_StepKeepsTheCells : CellLaw brimming := by
  unfold CellLaw
  decide +kernel

theorem test_witness_StepKeepsTheLimits : QueueLaw brimming ∧ PlacesLaw brimming := by
  refine ⟨⟨?_, ?_, ?_, ?_, ?_⟩, ?_⟩
  · unfold QueueWithin; decide +kernel
  · unfold QueueWithin; decide +kernel
  · unfold QueueWithin; decide +kernel
  · rintro x hx; cases hx; decide
  · intro _ hl; cases hl
  · unfold PlacesLaw; decide +kernel

theorem test_witness_StepKeepsTheTables : StoreLaw brimming ∧ PhaseLaw brimming :=
  ⟨⟨by decide, by decide, fun _ => by decide, fun _ => by decide, fun _ => .inl rfl⟩, fun _ => .inl rfl⟩

theorem test_witness_StepKeepsEnrolment : EnrolmentLaw brimming :=
  ⟨by unfold Enrolled; decide, fun _ => by unfold Enrolled; decide⟩

theorem test_witness_StepKeepsTheHoldersSession : SessionLaw brimming :=
  ⟨by decide, by decide, fun l hl => by cases hl; exact ⟨session, by decide, rfl, rfl⟩⟩

theorem test_witness_StepKeepsTheNoticeOrder : NoticeLaw brimming := by
  unfold NoticeLaw
  decide

/-- A step that begins a ROUND_START: the quiet interval of STARTING. -/
theorem test_witness_RoundStartCarriesTheGeneration :
    ∃ t, step { running .starting none none with pending := [.quietInterval] } = .next t
      ∧ t.line.tx = some ⟨.marker ⟨0x1C, 1, 0⟩, 3050⟩ := ⟨_, rfl, by decide⟩

/-- A step that begins a CALL: the turnaround before the first entry. -/
theorem test_witness_CallNamesACallableStation :
    ∃ t, step { running .running (some .turnaround) none with pending := [.turnaroundEnd] } = .next t
      ∧ t.line.tx = some ⟨.marker ⟨0x2C, 3, 2⟩, 520⟩ := ⟨_, rfl, by decide⟩

end Sys2Proof.Tests
end

section
/-! PROOFS. The five requests on the round table banks (R6 to R14): what each is answered, case by case, and the
statements O4 to O8. -/

namespace Sys2Proof.Machine

open Sys2Proof.Safety

/-! ### What a request on the tables leaves alone, and its answer -/

/-- Nothing but the Store and the Notice List differs. -/
def KeepsButTables (s t : State) : Prop :=
  t.agent = s.agent ∧ t.identity = s.identity ∧ t.now = s.now ∧ t.pending = s.pending ∧ t.resetRun = s.resetRun
  ∧ t.pins = s.pins ∧ t.uplink = s.uplink ∧ t.engine = s.engine ∧ t.line = s.line ∧ t.led = s.led
  ∧ t.trunkCounters = s.trunkCounters ∧ t.stations = s.stations ∧ t.admission = s.admission
  ∧ t.queues = s.queues ∧ t.stamps = s.stamps

/-- The block's answer to the request of `e`, which it sees after `dt` and steps 1 to 4 (R158). -/
def blockAnswer (row : RequestRow) (dt : Nat) (s : State) (e : InputEntry) : Answer :=
  row.answer e.request ((s.pass dt).ready e)

/-- The request of `e` is answered as its block says, and the tables and notices stand as the block left them. -/
structure AnsweredByBlock (row : RequestRow) (dt : Nat) (s t : State) (e : InputEntry) : Prop where
  answered : Answered s t e (blockAnswer row dt s e).status.code (blockAnswer row dt s e).body
  store : t.store = (blockAnswer row dt s e).state.store
  notices : t.notices = (blockAnswer row dt s e).state.notices

/-- A row that goes by its code names a frame of that code. -/
theorem names_of_carries {row : RequestRow} {e : InputEntry} {code : Byte} {body : List Byte}
    (hn : row.names = hasCode code) (h : Carries e code body) : row.names e.bytes = true := by
  obtain ⟨hcode, -⟩ := h
  simp [hn, hasCode, hcode]

/-- An asked request of the lease holder on the tables, as an event (R158, R168). -/
theorem holder_asks_tables {row : RequestRow} {dt : Nat} {s : State} {e : InputEntry} {code : Byte}
    {body : List Byte} (h : Asked s e code body) (hf : FromHolder s e) (hn : row.names = hasCode code)
    (hc : requestCodes.contains code = true) (hl : code ≠ codeReadCounters) (hr : row.resets = false)
    (hfit : row.fits body = true) (hk : ∀ q r, KeepsButTables r (row.answer q r).state) :
    ∃ t, takeRequestEvent row dt s = .next t ∧ RequestFrame dt s t e ∧ SameEngine s t ∧ SameIdentity s t
      ∧ t.stations = s.stations ∧ t.admission = s.admission ∧ t.queues = s.queues
      ∧ AnsweredByBlock row dt s t e := by
  obtain ⟨hagent, hidentity, hnow, hpending, hreset, hpins, huplink, hengine, hline, hled, htrunk, hstations,
    hadmission, hqueues, hstamps⟩ := hk e.request ((s.pass dt).ready e)
  obtain ⟨t, hstep, hframe, hans, -, tstore, tengine, tline, tled, ttrunk, tstations, tadmission, tqueues,
    tnotices, tstamps, tidentity⟩ := request_holder (dt := dt) h hf (names_of_carries hn h.2.2.2) hc
      (fun hcode => absurd hcode hl) hr hfit _ rfl hagent (by simp [hidentity]) (by simp [hnow])
      (by simp [hpending]) (by simp [hreset]) (by simp [hpins]) (by simp [huplink])
  exact ⟨t, hstep, hframe, ⟨by simp [tengine, hengine], by simp [tline, hline], by simp [tled, hled],
    by simp [ttrunk, htrunk]⟩, ⟨by simp [tstamps, hstamps], tidentity⟩, by simp [tstations, hstations],
    by simp [tadmission, hadmission], by simp [tqueues, hqueues], ⟨hans, tstore, tnotices⟩⟩

section
variable {row : RequestRow} {dt : Nat} {s t r : State} {e : InputEntry} {body : List Byte}

/-- A refusal leaves the tables and raises no notice (R178). -/
theorem AnsweredByBlock.refused (h : AnsweredByBlock row dt s t e) (st : Status)
    (ha : blockAnswer row dt s e = refuse st body ((s.pass dt).ready e)) :
    Answered s t e st.code body ∧ t.store = s.store ∧ t.notices = s.notices := by
  obtain ⟨hanswered, hstore, hnotices⟩ := h
  rw [ha] at hanswered hstore hnotices
  exact ⟨hanswered, by simp [hstore, refuse], by simp [hnotices, refuse]⟩

theorem AnsweredByBlock.refused_store (h : AnsweredByBlock row dt s t e) (st : Status)
    (ha : blockAnswer row dt s e = refuse st body ((s.pass dt).ready e)) :
    Answered s t e st.code body ∧ t.store = s.store :=
  have ⟨hanswered, hstore, _⟩ := h.refused st ha
  ⟨hanswered, hstore⟩

/-- An OK answer leaves the tables and the notices as its block does. -/
theorem AnsweredByBlock.done (h : AnsweredByBlock row dt s t e) (ha : blockAnswer row dt s e = okWith body r) :
    Answered s t e 0x00 body ∧ t.store = r.store ∧ t.notices = r.notices := by
  obtain ⟨hanswered, hstore, hnotices⟩ := h
  rw [ha] at hanswered hstore hnotices
  exact ⟨hanswered, hstore, hnotices⟩

end

theorem Answer.eq_of_state {a : Answer} {s : State} (h : a.state = s) : a = ⟨a.status, a.body, s⟩ := by
  subst h
  rfl

/-! ### The first element that fails a check -/

theorem firstFailing_eq_findIdx? {α : Type} (check : α → Bool) (l : List α) :
    firstFailing check l = l.findIdx? fun x => !check x := by
  induction l with
  | nil => rfl
  | cons x rest ih => cases hx : check x <;> simp [firstFailing, List.findIdx?_cons, hx, ih]

theorem firstFailing_eq_none {α : Type} {check : α → Bool} {l : List α} (h : ∀ x ∈ l, check x = true) :
    firstFailing check l = none := by
  simpa [firstFailing_eq_findIdx?, List.findIdx?_eq_none_iff] using h

theorem firstFailing_eq_some {α : Type} {check : α → Bool} {l : List α} {i : Nat} {x : α} (hx : l[i]? = some x)
    (hfail : check x = false) (hpass : ∀ j y, j < i → l[j]? = some y → check y = true) :
    firstFailing check l = some i := by
  obtain ⟨hi, rfl⟩ := List.getElem?_eq_some_iff.mp hx
  rw [firstFailing_eq_findIdx?, List.findIdx?_eq_some_iff_getElem]
  refine ⟨hi, by simp [hfail], fun j hj => ?_⟩
  simp [hpass j _ hj (List.getElem?_eq_getElem (hj.trans hi))]

/-! ### READ_ROUND (R6, R7) -/

/-- READ_ROUND changes no state (R6). -/
theorem answerReadRound_state (q : Request) (s : State) : (answerReadRound q s).state = s := by
  unfold answerReadRound
  dsimp only
  split
  · rfl
  · split <;> rfl

section
variable {q : Request} {s : State} {bank first count : Byte}

theorem answerReadRound_selector (hq : q.body = [bank, first, count]) (hb : 2 ≤ bank.toNat) :
    answerReadRound q s = refuse .range [0x01, 0xFF] s := by
  simp [answerReadRound, hq, numAt, byteAt, hb, refuseRange, RangeItem.code]

theorem answerReadRound_first (hq : q.body = [bank, first, count]) (hb : bank.toNat < 2)
    (hf : 64 ≤ first.toNat) : answerReadRound q s = refuse .range [0x02, 0xFF] s := by
  simp [answerReadRound, hq, numAt, byteAt, Nat.not_le.mpr hb, hf, refuseRange, RangeItem.code]

/-- The bank a selector names (R6). -/
def bankOf (bank : Byte) (st : Store) : Bank := if bank = 0 then st.active else st.pending

theorem answerReadRound_ok (hq : q.body = [bank, first, count]) (hb : bank.toNat < 2) (hf : first.toNat < 64) :
    answerReadRound q s =
      let b := bankOf bank s.store
      let part := (b.entries.drop first.toNat).take count.toNat
      okWith ([bank, s.store.generation, if s.store.armed then 0x01 else 0x00, byteOf b.entries.length]
        ++ b.header.bytes ++ [first, byteOf part.length] ++ part.flatMap RoundEntry.bytes) s := by
  have hbank : (if bank.toNat == 0 then s.store.active else s.store.pending) = bankOf bank s.store := by
    simp [bankOf, ← BitVec.toNat_inj]
  have hfirst : byteOf first.toNat = first := by simp [byteOf]
  simp only [answerReadRound, hq, numAt, byteAt, List.getD_cons_zero, List.getD_cons_succ, hbank, hfirst,
    Nat.not_le.mpr hb, Nat.not_le.mpr hf, if_false, flagByte]

end

/-- Settles O4, by the three answers of READ_ROUND. -/
theorem readRoundReportsOneBank : Obligations.ReadRoundReportsOneBank := by
  intro dt s e bank first count h
  have hq : e.request.body = [bank, first, count] := Requests_body h.2.2.2
  have hsettle : rowReadRound.settle e.request ((s.pass dt).ready e)
      = answerReadRound e.request ((s.pass dt).ready e) :=
    settle_allowed rfl (by rw [hq]; rfl)
  obtain ⟨t, hstep, hans, honly, hcount⟩ := request_read h (names_of_carries (row := rowReadRound) rfl h.2.2.2)
    (by decide) (by simp [codeReadCounters]) rfl
    (hsettle.trans (Answer.eq_of_state (answerReadRound_state e.request ((s.pass dt).ready e))))
  refine ⟨t, hstep, honly, fun hb => ?_, fun hb hf => ?_, fun hb hf => ?_⟩
  · rw [answerReadRound_selector hq hb] at hans hcount
    exact ⟨hans, hcount⟩
  · rw [answerReadRound_first hq hb hf] at hans hcount
    exact ⟨hans, hcount⟩
  · rw [answerReadRound_ok hq hb hf] at hans hcount
    simp only [ready_frame, pass_store] at hans
    exact ⟨hans, hcount⟩

/-! ### WRITE_ROUND (R8, R9) -/

theorem itemsOf_flatten {size : Nat} {items : List (List Byte)} (h : ∀ x ∈ items, x.length = size) :
    itemsOf size items.length items.flatten = items := by
  induction items with
  | nil => rfl
  | cons x rest ih =>
    obtain ⟨hx, hrest⟩ := List.forall_mem_cons.mp h
    simp [itemsOf, List.take_left' hx, List.drop_left' hx, ih hrest]

theorem roundEntryValid_iff (x : List Byte) : roundEntryValid x = true ↔ EntryInRange x := by
  simp only [roundEntryValid, EntryInRange, Bool.and_eq_true, Bool.or_eq_true, decide_eq_true_eq, beq_iff_eq,
    bne_iff_ne]
  omega

theorem writeEntries_length {f n : Nat} {new old : List RoundEntry} (hf : f ≤ old.length)
    (hn : n ≤ old.length ∨ n ≤ f + new.length) : (writeEntries f n new old).length = n := by
  simp only [writeEntries, List.length_take, List.length_append, List.length_drop]
  omega

/-- R9, index by index. -/
theorem writeEntries_getElem? {f n i : Nat} {new old : List RoundEntry} (hf : f ≤ old.length) (hi : i < n) :
    (writeEntries f n new old)[i]? = if f ≤ i ∧ i < f + new.length then new[i - f]? else old[i]? := by
  have htake : (old.take f).length = f := by simp [hf]
  simp only [writeEntries, List.append_assoc, List.getElem?_take_of_lt hi, List.getElem?_append, htake,
    List.getElem?_drop, List.getElem?_take]
  by_cases h1 : i < f
  · simp [h1]
  · by_cases h2 : i < f + new.length
    · simp [h1, h2, show i - f < new.length by omega, show f ≤ i by omega]
    · simp [h1, h2, show ¬ i - f < new.length by omega,
        show f + new.length + (i - f - new.length) = i by omega]

/-- The body of a WRITE_ROUND: `f`, `k`, `n` and `k` entries (R210). -/
structure WritesRound (body : List Byte) (f n : Byte) (es : List (List Byte)) : Prop where
  spelled : body = [f, byteOf es.length, n] ++ es.flatten
  sized : ∀ x ∈ es, x.length = 4
  short : body.length ≤ 480

section
variable {body : List Byte} {f n : Byte} {es : List (List Byte)}

theorem WritesRound.length (h : WritesRound body f n es) : body.length = 3 + 4 * es.length := by
  have hlengths : es.map List.length = es.map fun _ => 4 := List.map_congr_left h.sized
  rw [h.spelled]
  simp [List.length_flatten, hlengths]
  omega

theorem WritesRound.count (h : WritesRound body f n es) : numAt body 1 = es.length := by
  have := h.length
  have := h.short
  rw [h.spelled]
  simp [numAt, byteAt, byteOf]
  omega

theorem WritesRound.first (h : WritesRound body f n es) : numAt body 0 = f.toNat := by
  rw [h.spelled]
  rfl

theorem WritesRound.newLength (h : WritesRound body f n es) : numAt body 2 = n.toNat := by
  rw [h.spelled]
  rfl

theorem WritesRound.items (h : WritesRound body f n es) : writeRoundItems body = es := by
  rw [writeRoundItems, h.count, h.spelled]
  exact itemsOf_flatten h.sized

theorem WritesRound.fits (h : WritesRound body f n es) : rowWriteRound.fits body = true := by
  simp [rowWriteRound, h.count, h.length]

theorem WritesRound.of_carries {e : InputEntry} {code : Byte}
    (h : Carries e code ([f, byteOf es.length, n] ++ es.flatten)) (hsized : ∀ x ∈ es, x.length = 4) :
    WritesRound e.request.body f n es := by
  refine ⟨Requests_body h, hsized, ?_⟩
  rw [Requests_body h, ← envBody_length h]
  exact h.2.1

end

theorem answerWriteRound_keeps (q : Request) (s : State) : KeepsButTables s (answerWriteRound q s).state := by
  simp [KeepsButTables]

/-- Settles O5, by the checks of WRITE_ROUND in their order. -/
theorem writeRoundEditsPending : Obligations.WriteRoundEditsPending := by
  intro dt s e f n es h hf hsized
  dsimp only
  have hcar : Carries e 0x11 ([f, byteOf es.length, n] ++ es.flatten) := h.2.2.2
  have hw : WritesRound e.request.body f n es := WritesRound.of_carries hcar hsized
  obtain ⟨t, hstep, hframe, hengine, hidentity, hstations, hadmission, hqueues, hans⟩ :=
    holder_asks_tables (row := rowWriteRound) (dt := dt) h hf rfl (by decide) (by decide) rfl
      (Requests_body hcar ▸ hw.fits) answerWriteRound_keeps
  have hnotices : t.notices = s.notices := by simp [hans.notices, blockAnswer, rowWriteRound]
  have hblock : blockAnswer rowWriteRound dt s e = answerWriteRound e.request ((s.pass dt).ready e) := rfl
  simp only [answerWriteRound, hw.first, hw.count, hw.newLength, hw.items, ready_frame, pass_store, refuseRange,
    RangeItem.code, Bool.or_eq_true, decide_eq_true_eq, max_lt_iff] at hblock
  refine ⟨t, hstep, hframe, hengine, hidentity, hstations, hadmission, hqueues, hnotices, fun harm => ?_,
    fun harm => ⟨fun hfirst => ?_, fun hfirst => ⟨fun hcount => ?_, fun hcount => ⟨fun hlength => ?_,
      fun hn hlength => ?_⟩⟩⟩⟩
  · exact hans.refused_store .pendingLocked (by simp [hblock, harm])
  · exact hans.refused_store .range (by simp [hblock, harm, hfirst])
  · exact hans.refused_store .range (by simp [hblock, harm, Nat.not_lt.mpr hfirst, hcount])
  · exact hans.refused_store .range
      (by simp [hblock, harm, Nat.not_lt.mpr hfirst, Nat.not_lt.mpr hcount, hlength])
  · have hlen : ¬ (64 < n.toNat ∨ s.store.pending.entries.length < n.toNat ∧ f.toNat + es.length < n.toNat) := by
      omega
    constructor
    · intro i x hx hbad hgood
      have hfail : firstFailing roundEntryValid es = some i :=
        firstFailing_eq_some hx (Bool.eq_false_iff.mpr (mt (roundEntryValid_iff x).mp hbad))
          fun j y hj hy => (roundEntryValid_iff y).mpr (hgood j y hj hy)
      exact hans.refused_store .range
        (by simp [hblock, harm, Nat.not_lt.mpr hfirst, Nat.not_lt.mpr hcount, hlen, hfail])
    · intro hgood
      have hpass : firstFailing roundEntryValid es = none :=
        firstFailing_eq_none fun x hx => (roundEntryValid_iff x).mpr (hgood x hx)
      have hwritten : (writeEntries f.toNat n.toNat (es.map roundEntryOf) s.store.pending.entries).length = n.toNat :=
        writeEntries_length hfirst (by simpa using hlength)
      obtain ⟨hanswered, hstore, -⟩ := hans.done (hblock.trans
        (by simp only [harm, Nat.not_lt.mpr hfirst, Nat.not_lt.mpr hcount, hlen, hpass, if_false,
          Bool.false_eq_true]; rfl))
      simp only [onStore_store, ready_frame, pass_store] at hstore
      refine ⟨?_, by simp [hstore], by simp [hstore, hwritten], fun i hi => ?_⟩
      · simpa [hwritten, byteOf] using hanswered
      · simpa [hstore] using writeEntries_getElem? (new := es.map roundEntryOf) hfirst hi

/-! ### SET_ROUND_PARAMS (R10) -/

/-- Two bytes as a number, most significant first (R207). -/
theorem toNat_append_bytes (hi lo : Byte) : (hi ++ lo).toNat = 256 * hi.toNat + lo.toNat := by
  rw [BitVec.toNat_append, ← Nat.shiftLeft_add_eq_or_of_lt lo.isLt, Nat.shiftLeft_eq]
  omega

/-- The header that seven bytes spell (R211). -/
theorem headerOf_bytes (answer cont miss strike probe hi lo : Byte) :
    headerOf [answer, cont, miss, strike, probe, hi, lo] =
      { answerWindow := answer.toNat, continueWindow := cont.toNat, missLimit := miss.toNat,
        strikeLimit := strike.toNat, probePeriod := probe.toNat, floor := 256 * hi.toNat + lo.toNat } := by
  simp [headerOf, numAt, wordAt, byteAt, toNat_append_bytes]

/-- The checks of R10 on parameters that are one byte each: no upper limit of 255 can be passed. -/
theorem headerFails_bytes (answer cont miss strike probe : Byte) (floor : Nat) :
    headerFails { answerWindow := answer.toNat, continueWindow := cont.toNat, missLimit := miss.toNat,
                  strikeLimit := strike.toNat, probePeriod := probe.toNat, floor := floor } =
      if answer.toNat < 16 then some .answerWindow
      else if cont.toNat < 32 then some .continueWindow
      else if miss.toNat = 0 ∨ 15 < miss.toNat then some .missLimit
      else if strike.toNat = 0 ∨ 7 < strike.toNat then some .strikeLimit
      else if probe.toNat = 0 then some .probePeriod
      else none := by
  have hbyte (b : Byte) : ¬ 255 < b.toNat := by omega
  simp [headerFails, hbyte]

theorem answerSetRoundParams_keeps (q : Request) (s : State) :
    KeepsButTables s (answerSetRoundParams q s).state := by
  simp [KeepsButTables]

/-- Settles O6, by the first parameter that is out of its range. -/
theorem setRoundParamsReplacesHeader : Obligations.SetRoundParamsReplacesHeader := by
  intro dt s e answer cont miss strike probe hi lo h hf
  obtain ⟨t, hstep, hframe, hengine, hidentity, hstations, hadmission, hqueues, hans⟩ :=
    holder_asks_tables (row := rowSetRoundParams) (dt := dt) h hf rfl (by decide) (by decide) rfl rfl
      answerSetRoundParams_keeps
  have hnotices : t.notices = s.notices := by simp [hans.notices, blockAnswer, rowSetRoundParams]
  have hblock : blockAnswer rowSetRoundParams dt s e
      = answerSetRoundParams e.request ((s.pass dt).ready e) := rfl
  simp only [answerSetRoundParams, Requests_body h.2.2.2, headerOf_bytes, headerFails_bytes, ready_frame,
    pass_store, refuseRange] at hblock
  refine ⟨t, hstep, hframe, hengine, hidentity, hstations, hadmission, hqueues, hnotices, ?_⟩
  split_ifs with harm hanswer hcont hmiss hstrike hprobe
  · exact hans.refused_store .pendingLocked (by simp [hblock, harm])
  · exact hans.refused_store .range (by simp [hblock, harm, hanswer, RangeItem.code])
  · exact hans.refused_store .range (by simp [hblock, harm, hanswer, hcont, RangeItem.code])
  · exact hans.refused_store .range (by simp [hblock, harm, hanswer, hcont, hmiss, RangeItem.code])
  · exact hans.refused_store .range (by simp [hblock, harm, hanswer, hcont, hmiss, hstrike, RangeItem.code])
  · exact hans.refused_store .range (by simp [hblock, harm, hanswer, hcont, hmiss, hstrike, hprobe, RangeItem.code])
  · obtain ⟨hanswered, hstore, -⟩ := hans.done (hblock.trans
      (by simp only [harm, hanswer, hcont, hmiss, hstrike, hprobe, if_false]; rfl))
    exact ⟨hanswered, by simpa using hstore⟩

/-! ### COMMIT_ROUND (R11 to R13, R16) -/

/-- Whether an entry of PENDING is a head entry or names an enrolled station, as the record list has it (R11). -/
theorem entryEnrolled_iff (s : State) (x : RoundEntry) :
    entryEnrolled s x = true ↔ x.station = 0 ∨ ∃ r ∈ s.stations, r.station = x.station := by
  simp [entryEnrolled, State.station?]

/-- A swap, field by field (R16). -/
theorem swap_store (s : State) : s.swap.store =
    { active := s.store.pending, pending := s.store.pending, generation := s.store.generation + 1,
      armed := false } := rfl

theorem swap_notices (s : State) : s.swap.notices =
    s.notices.raise s.engine.round .tableSwapped none
      ⟨s.store.generation + 1, byteOf s.store.pending.entries.length, 0, 0⟩ := rfl

theorem answerCommitRound_keeps (q : Request) (s : State) : KeepsButTables s (answerCommitRound q s).state := by
  simp [KeepsButTables]

section
variable (q : Request) {s : State}

theorem answerCommitRound_locked (ha : s.store.armed = true) :
    answerCommitRound q s = refuse .pendingLocked [] s := by
  simp [answerCommitRound, ha]

theorem answerCommitRound_empty (ha : s.store.armed = false) (he : s.store.pending.entries = []) :
    answerCommitRound q s = refuse .invalidTable [0x01] s := by
  simp [answerCommitRound, ha, he]

theorem answerCommitRound_unknown {i : Nat} (ha : s.store.armed = false)
    (hi : firstFailing (entryEnrolled s) s.store.pending.entries = some i) :
    answerCommitRound q s = refuse .unknownStation [byteOf i] s := by
  have he : s.store.pending.entries ≠ [] := by
    intro he
    simp [he, firstFailing] at hi
  simp [answerCommitRound, ha, he, hi]

theorem answerCommitRound_valid (ha : s.store.armed = false) (he : s.store.pending.entries ≠ [])
    (hn : firstFailing (entryEnrolled s) s.store.pending.entries = none) :
    answerCommitRound q s =
      if s.engine.trunk = .stopped then okWith [0x01, s.store.generation + 1] s.swap
      else okWith [0x02, s.store.generation] (s.onStore fun st => { st with armed := true }) := by
  simp [answerCommitRound, ha, he, hn, swap_store]

end

/-- Settles O7, by the checks of COMMIT_ROUND in their order and the trunk state. -/
theorem commitRoundSwapsOrArms : Obligations.CommitRoundSwapsOrArms := by
  intro dt s e h hf
  dsimp only
  obtain ⟨t, hstep, hframe, hengine, hidentity, hstations, hadmission, hqueues, hans⟩ :=
    holder_asks_tables (row := rowCommitRound) (dt := dt) h hf rfl (by decide) (by decide) rfl rfl
      answerCommitRound_keeps
  have hstore : ((s.pass dt).ready e).store = s.store := by simp
  have htrunk : ((s.pass dt).ready e).engine = s.engine := by simp
  have hnamed (x : RoundEntry) : entryEnrolled ((s.pass dt).ready e) x = true
      ↔ x.station = 0 ∨ ∃ r ∈ s.stations, r.station = x.station := by
    simp [entryEnrolled_iff]
  refine ⟨t, hstep, hframe, hengine, hidentity, hstations, hadmission, hqueues, fun harm => ?_,
    fun harm hempty => ?_, fun harm i x hx hbad hgood => ?_, fun harm hfull hgood => ?_⟩
  · exact hans.refused .pendingLocked (answerCommitRound_locked e.request (hstore ▸ harm))
  · exact hans.refused .invalidTable (answerCommitRound_empty e.request (hstore ▸ harm) (hstore ▸ hempty))
  · have hfail : firstFailing (entryEnrolled ((s.pass dt).ready e)) s.store.pending.entries = some i :=
      firstFailing_eq_some hx (Bool.eq_false_iff.mpr (mt (hnamed x).mp hbad))
        fun j y hj hy => (hnamed y).mpr (hgood j y hj hy)
    exact hans.refused .unknownStation (answerCommitRound_unknown e.request (hstore ▸ harm) (hstore ▸ hfail))
  · have hpass : firstFailing (entryEnrolled ((s.pass dt).ready e)) s.store.pending.entries = none :=
      firstFailing_eq_none fun x hx => (hnamed x).mpr (hgood x hx)
    have hblock : blockAnswer rowCommitRound dt s e = _ :=
      answerCommitRound_valid e.request (hstore ▸ harm) (hstore ▸ hfull) (hstore ▸ hpass)
    rw [htrunk, hstore] at hblock
    constructor
    · intro hstopped
      rw [if_pos hstopped] at hblock
      obtain ⟨hanswered, htables, hnotices⟩ := hans.done hblock
      exact ⟨hanswered, by simpa [swap_store] using htables, by simpa [swap_notices] using hnotices⟩
    · intro hrunning
      rw [if_neg hrunning] at hblock
      obtain ⟨hanswered, htables, hnotices⟩ := hans.done hblock
      exact ⟨hanswered, by simpa using htables, by simpa using hnotices⟩

/-! ### DISARM_ROUND (R14) -/

theorem answerDisarmRound_keeps (q : Request) (s : State) : KeepsButTables s (answerDisarmRound q s).state := by
  simp [KeepsButTables]

/-- Settles O8, by the armed flag. -/
theorem disarmRoundClearsTheFlag : Obligations.DisarmRoundClearsTheFlag := by
  intro dt s e h hf
  obtain ⟨t, hstep, hframe, hengine, hidentity, hstations, hadmission, hqueues, hans⟩ :=
    holder_asks_tables (row := rowDisarmRound) (dt := dt) h hf rfl (by decide) (by decide) rfl rfl
      answerDisarmRound_keeps
  have hnotices : t.notices = s.notices := by simp [hans.notices, blockAnswer, rowDisarmRound]
  have hblock : blockAnswer rowDisarmRound dt s e = answerDisarmRound e.request ((s.pass dt).ready e) := rfl
  simp only [answerDisarmRound, ready_frame, pass_store] at hblock
  refine ⟨t, hstep, hframe, hengine, hidentity, hstations, hadmission, hqueues, hnotices, fun harm => ?_,
    fun harm => ?_⟩
  · rw [if_pos harm] at hblock
    obtain ⟨hanswered, hstore, -⟩ := hans.done hblock
    exact ⟨hanswered, by simpa using hstore⟩
  · exact hans.refused_store .notArmed (by simp [hblock, harm])

end Sys2Proof.Machine
end

section
/-! PROOFS. IDENTIFY (R202): the items of its answer, and the statement O9. -/

namespace Sys2Proof.Machine

open Sys2Proof.Safety

/-- The items of IDENTIFY in numbers: the codes, the factory address, the group address with the capacities and the
reset cause, the seconds since reset and the link state (R202). -/
def identifyItems (i : Identity) (link : Bool) : List Byte :=
  [0x5A, 0x4A, 0x03, 0x10, 0x01] ++ addrBytes i.factory
    ++ [0x0B, 0x3A, 0x6C, 0x00, 0x00, 0x01, 64, 30, 16, 0x02, 0x00, 16, 4, 4, 4, i.cause.code]
    ++ bytes4 i.seconds.toNat ++ [linkCode link]

theorem identify_codes :
    bytes2 Config.vendorCode ++ bytes2 Config.partCode ++ [byteOf Config.revision]
      = [0x5A, 0x4A, 0x03, 0x10, 0x01] := by
  decide

theorem identify_capacities (cause : Byte) :
    addrBytes Config.groupAddress ++ [byteOf Config.roundEntries, byteOf Config.stationCount, byteOf Config.ruleCount]
        ++ bytes2 Config.cellCount
        ++ [byteOf Config.noticePlaces, byteOf Config.sessionPlaces, byteOf Config.inputPlaces,
            byteOf Config.outputPlaces, cause]
      = [0x0B, 0x3A, 0x6C, 0x00, 0x00, 0x01, 64, 30, 16, 0x02, 0x00, 16, 4, 4, 4, cause] :=
  rfl

/-- IDENTIFY is answered OK with its items and changes no state (R202). -/
theorem answerIdentify_eq (q : Request) (s : State) :
    answerIdentify q s = okWith (identifyItems s.identity s.uplink.link) s := by
  rw [identifyItems, ← identify_codes, ← identify_capacities]
  simp only [answerIdentify, List.append_assoc]

/-- Settles O9: the class READ allows every asker, an empty body fits, and the block sees the identity and the link
state of the event (R158, R202). -/
theorem identifyReportsThePart : Obligations.IdentifyReportsThePart := by
  intro dt s e h
  have ⟨_, _, _, hcarries⟩ := h
  have hsettle : rowIdentify.settle e.request ((s.pass dt).ready e)
      = answerIdentify e.request ((s.pass dt).ready e) :=
    settle_allowed rfl (by rw [Requests_body hcarries]; rfl)
  obtain ⟨t, hstep, hans, honly, hcount⟩ := request_read h (names_of_carries (row := rowIdentify) rfl hcarries)
    (by decide) (by simp [codeReadCounters]) rfl (hsettle.trans (answerIdentify_eq _ _))
  simp only [ready_frame, pass_identity, pass_uplink] at hans
  exact ⟨t, hstep, honly, hcount, hans⟩

end Sys2Proof.Machine
end

section
/-! PROOFS. What every step keeps: a command outside the reset rules is one event, an event is made of a few changes of
the blocks, and a property that these changes keep is kept by every step. -/

namespace Sys2Proof.Machine

open Sys2Proof.Safety

/-! ### A command as an event -/

/-- The row of a request command. -/
def rowOf : Instr → Option RequestRow
  | .identify _ => some rowIdentify
  | .claim _ => some rowClaim
  | .release _ => some rowRelease
  | .resetDevice _ => some rowResetDevice
  | .readRound _ => some rowReadRound
  | .writeRound _ => some rowWriteRound
  | .setRoundParams _ => some rowSetRoundParams
  | .commitRound _ => some rowCommitRound
  | .disarmRound _ => some rowDisarmRound
  | .readTrunk _ => some rowReadTrunk
  | .startTrunk _ => some rowStartTrunk
  | .stopTrunk _ => some rowStopTrunk
  | .readStations _ => some rowReadStations
  | .enrolStation _ => some rowEnrolStation
  | .withdrawStation _ => some rowWithdrawStation
  | .setStationMute _ => some rowSetStationMute
  | .setStationRestore _ => some rowSetStationRestore
  | .setStationBind _ => some rowSetStationBind
  | .setStationUnbind _ => some rowSetStationUnbind
  | .readRules _ => some rowReadRules
  | .writeRules _ => some rowWriteRules
  | .setDefaults _ => some rowSetDefaults
  | .readQueues _ => some rowReadQueues
  | .setQueueLimits _ => some rowSetQueueLimits
  | .flushQueue _ => some rowFlushQueue
  | .readNotices _ => some rowReadNotices
  | .ackNotices _ => some rowAckNotices
  | .readCounters _ => some rowReadCounters
  | .readCountersClear _ => some rowReadCountersClear
  | _ => none

/-- The effect of an event that is no request. -/
def lineEffect : Instr → State → State
  | .linkUp _ => State.linkRises
  | .linkDown _ => State.linkFalls
  | .carrierOn _ => State.carrierRises
  | .carrierOff _ col bits => State.carrierFalls col bits
  | .collision _ => State.collisionRises
  | .overrun => State.burstOverrun
  | .echoAllowanceEnd crs col => State.endEcho crs col
  | .markerEnd => State.endMarker
  | .headFrameEnd => State.endHeadFrame
  | .answerWindowExpiry => State.expireAnswer
  | .continueWindowExpiry => State.expireContinue
  | .turnaroundEnd => State.endTurnaround
  | .interFrameGapEnd => State.endGap
  | .quietInterval => State.seeQuiet
  | .floorExpiry => State.expireFloor
  | .receiveCompletion _ groups rxError => State.completeReception groups rxError
  | .uplinkTransmissionEnd => State.endTransmission
  | .uplinkGapEnd => State.endUplinkGap
  | .leaseExpiry => State.expireLease
  | .sessionIdleEnd address tag => State.endIdleSession address tag
  | .retryTime number => State.retryNotice number
  | .secondsSinceResetTick => State.tickSecond
  | .receiverBeginsFrame heard => State.beginReception heard.2
  | .ledTrunkFlash => State.flashLed
  | _ => id

/-- The effect of a command outside the reset rules. -/
def effect (c : Instr) : State → State :=
  match rowOf c with
  | some row => State.takeRequest row
  | none => lineEffect c

/-- The time since the command before that a command carries; none for the end of an interval (log 1). -/
def elapsed : Instr → Nat
  | .identify dt | .claim dt | .release dt | .resetDevice dt | .readRound dt | .writeRound dt | .setRoundParams dt
  | .commitRound dt | .disarmRound dt | .readTrunk dt | .startTrunk dt | .stopTrunk dt | .readStations dt
  | .enrolStation dt | .withdrawStation dt | .setStationMute dt | .setStationRestore dt | .setStationBind dt
  | .setStationUnbind dt | .readRules dt | .writeRules dt | .setDefaults dt | .readQueues dt | .setQueueLimits dt
  | .flushQueue dt | .readNotices dt | .ackNotices dt | .readCounters dt | .readCountersClear dt
  | .linkUp dt | .linkDown dt | .carrierOn dt | .carrierOff dt _ _ | .collision dt | .receiveCompletion dt _ _ => dt
  | .receiverBeginsFrame heard => heard.1
  | _ => 0

/-- The pin levels that a command reports. -/
def levels : Instr → Pins → Pins
  | .linkUp _, p => { p with link := true }
  | .linkDown _, p => { p with link := false }
  | .carrierOn _, p => { p with tkCrs := true }
  | .carrierOff _ col _, p => { p with tkCrs := false, tkCol := col }
  | .collision _, p => { p with tkCol := true }
  | _, p => p

/-- The state an event is taken in: the time has passed and the pins stand as reported. -/
def State.heard (c : Instr) (s : State) : State := (s.pass (elapsed c)).onPins (levels c)

/-- A command outside the reset rules is one event. -/
theorem exec_event {c : Instr} (h : isResetCommand c = false) (s : State) :
    exec c s = .next ((s.heard c).event (effect c)) := by
  cases c <;> first | rfl | cases h

/-- No event reports a level of RSTN. -/
theorem levels_rstn (c : Instr) (p : Pins) : (levels c p).rstn = p.rstn := by
  cases c <;> rfl

/-! ### Requests that change no state -/

/-- The rows whose answers change the part after step 4. -/
def writingRows : List RequestRow :=
  [rowClaim, rowRelease, rowWriteRound, rowSetRoundParams, rowCommitRound, rowDisarmRound, rowStartTrunk, rowStopTrunk,
   rowEnrolStation, rowWithdrawStation, rowSetStationMute, rowSetStationRestore, rowSetStationBind,
   rowSetStationUnbind, rowWriteRules, rowSetDefaults, rowSetQueueLimits, rowFlushQueue, rowAckNotices,
   rowReadCounters, rowReadCountersClear]

theorem answerReadStations_state (q : Request) (s : State) : (answerReadStations q s).state = s := by
  unfold answerReadStations
  dsimp only
  split <;> rfl

theorem answerReadRules_state (q : Request) (s : State) : (answerReadRules q s).state = s := by
  unfold answerReadRules
  dsimp only
  split <;> rfl

/-- A request command's answer leaves the state it is asked in, or its row is a writing one. -/
theorem rowOf_reads_or_writes {c : Instr} {row : RequestRow} (h : rowOf c = some row) :
    (∀ q s, (row.answer q s).state = s) ∨ row ∈ writingRows := by
  cases c <;> simp only [rowOf, Option.some.injEq, reduceCtorEq] at h <;> subst h
  case identify | resetDevice | readTrunk | readQueues | readNotices => exact .inl fun _ _ => rfl
  case readRound => exact .inl answerReadRound_state
  case readStations => exact .inl answerReadStations_state
  case readRules => exact .inl answerReadRules_state
  all_goals exact .inr (by simp [writingRows])

/-! ### The changes an event is made of -/

/-- The changes of the round engine, the trunk line, the Admission Unit and the queues keep `P`. An engine's change of
this kind keeps the trunk state, and enters a phase only from another phase or in RUNNING. -/
structure KeepsTrunk (P : State → Prop) : Prop where
  reach : ∀ (t : Nat) (s : State), P s → P (s.reach t)
  pins : ∀ (f : Pins → Pins) (s : State), P s → P (s.onPins f)
  line : ∀ (f : Line → Line) (s : State), (f s.line).tx = s.line.tx ∨ (f s.line).tx = none → P s → P (s.onLine f)
  counters : ∀ (f : TrunkCounters → TrunkCounters) (s : State), P s → P (s.countTrunk f)
  engine : ∀ (f : Engine → Engine) (s : State), (f s.engine).trunk = s.engine.trunk →
    ((f s.engine).phase ≠ none → s.engine.phase ≠ none ∨ s.engine.trunk = .running) → P s → P (s.onEngine f)
  raised : ∀ (k : NoticeKind) (n : Option Nat) (d : Detail) (s : State), P s → P (s.raise k n d)
  station : ∀ (n : Nat) (f : Station → Station) (s : State), (∀ r, r.station = n → (f r).station = n) → P s →
    P (s.onStation n f)
  admission : ∀ (f : Admission → Admission) (s : State), (f s.admission).rules.length = s.admission.rules.length →
    P s → P (s.onAdmission f)
  agentCounters : ∀ (f : AgentCounters → AgentCounters) (s : State), P s → P (s.countAgent f)
  offered : ∀ (e : InputEntry) (s : State), s.agent.input.length < Config.inputPlaces → P s →
    P (s.onAgent fun a => { a with input := a.input ++ [e] })
  dropped : ∀ (q : QueueName) (r : DropReason) (s : State), P s →
    P (s.onQueues (Queues.on q (Queue.count (QueueCounters.drop r))))
  joined : ∀ (q : QueueName) (f : Frame) (s : State), enqueueFails q f.cells s = none → P s →
    P (s.onQueues (Queues.join q f))
  taken : ∀ (q : QueueName) (s : State), q ≠ .uq → P s → P (s.takeFrame q)
  released : ∀ s : State, P s → P (s.onQueues (Queues.releaseTrunk QueueCounters.transmit))
  aborted : ∀ s : State, P s → P (s.onQueues Queues.abort)
  swapped : ∀ s : State, P s → P s.swapPoint
  stopped : ∀ s : State, P s → P ((s.onEngine Engine.stop).enterTrunk .stopped)
  blocked : ∀ s : State, s.engine.phase ≠ none → P s →
    P ((s.onEngine (Engine.block s.now)).enterTrunk .blocked)

/-- Rounds begin too: the trunk enters RUNNING from STARTING and BLOCKED, and the head sends a marker. -/
structure KeepsRounds (P : State → Prop) : Prop extends KeepsTrunk P where
  running : ∀ s : State, s.engine.trunk = .starting ∨ s.engine.trunk = .blocked → P s →
    P ((s.onEngine fun e => { e with quietFrom := none }).enterTrunk .running)
  marker : ∀ (m : Marker) (s : State), P s → P (s.sendMarker m)

/-- The changes of the uplink port, the agent outside a request, the clocks and the indicator keep `P`, and so does the
beginning of the SOFT reset that waits. -/
structure KeepsUplink (P : State → Prop) : Prop where
  uplink : ∀ (f : Uplink → Uplink) (s : State), (f s.uplink).link = s.uplink.link → P s → P (s.onUplink f)
  rises : ∀ s : State, P s → P s.linkRises
  falls : ∀ s : State, s.resetRun = none → P s → P s.linkFalls
  takenUp : ∀ s : State, P s → P (s.onQueues Queues.takeUp)
  releasedUp : ∀ s : State, P s → P (s.onQueues (Queues.releaseUplink QueueCounters.transmit))
  answered : ∀ s : State, P s → P (s.onAgent fun a => { a with output := a.output.tail })
  reset : ∀ s : State, P s → P (s.beginReset .soft)
  sent : ∀ (n : BitVec 16) (t : Nat) (s : State), P s → P (s.onNotices (NoticeList.recordSend n t))
  retried : ∀ (n : BitVec 16) (s : State), P s → P (s.retryNotice n)
  expired : ∀ s : State, P s → P s.expireLease
  idled : ∀ (a : Addr) (t : BitVec 16) (s : State), P s → P (s.endIdleSession a t)
  ticked : ∀ s : State, P s → P s.tickSecond
  flashed : ∀ s : State, P s → P s.flashLed

/-- The reset commands keep `P`. -/
structure KeepsResets (P : State → Prop) : Prop where
  powered : ∀ s : State, P s → P s.applyPower
  asserted : ∀ s : State, P s → P s.assertRstn
  freed : ∀ s : State, P s → P s.releaseRstn
  settled : ∀ s : State, P s → P { s with resetRun := s.resetRun.map (ResetRun.settle s.now) }
  after : ∀ (k : ResetKind) (s : State), P s → P (s.afterReset k)

/-- The answers of the writing rows keep `P`. CLAIM is asked by a session of the table (R161), a write to PENDING by the
lease holder (R168). -/
structure KeepsAnswers (P : State → Prop) : Prop where
  claim : ∀ (q : Request) (s : State), s.agent.sessions.find? (Session.hasKey q.src q.tag) ≠ none → P s →
    P (answerClaim q s).state
  release : ∀ (q : Request) (s : State), P s → P (answerRelease q s).state
  writeRound : ∀ (q : Request) (s : State), s.agent.holds q.src q.tag = true → P s → P (answerWriteRound q s).state
  setRoundParams : ∀ (q : Request) (s : State), s.agent.holds q.src q.tag = true → P s → P (answerSetRoundParams q s).state
  commitRound : ∀ (q : Request) (s : State), P s → P (answerCommitRound q s).state
  disarmRound : ∀ (q : Request) (s : State), s.agent.holds q.src q.tag = true → P s → P (answerDisarmRound q s).state
  startTrunk : ∀ (q : Request) (s : State), P s → P (answerStartTrunk q s).state
  stopTrunk : ∀ (q : Request) (s : State), P s → P (answerStopTrunk q s).state
  enrolStation : ∀ (q : Request) (s : State), P s → P (answerEnrolStation q s).state
  withdrawStation : ∀ (q : Request) (s : State), P s → P (answerWithdrawStation q s).state
  mute : ∀ (q : Request) (s : State), P s → P (setStation (actMute s) q s).state
  restore : ∀ (q : Request) (s : State), P s → P (setStation (actRestore s) q s).state
  bind : ∀ (q : Request) (s : State), P s → P (setStation (actBind q s) q s).state
  unbind : ∀ (q : Request) (s : State), P s → P (setStation (actUnbind s) q s).state
  writeRules : ∀ (q : Request) (s : State), P s → P (answerWriteRules q s).state
  setDefaults : ∀ (q : Request) (s : State), P s → P (answerSetDefaults q s).state
  setQueueLimits : ∀ (q : Request) (s : State), P s → P (answerSetQueueLimits q s).state
  flushQueue : ∀ (q : Request) (s : State), P s → P (answerFlushQueue q s).state
  ackNotices : ∀ (q : Request) (s : State), P s → P (answerAckNotices q s).state
  counters : ∀ (q : Request) (s : State), P s → P (answerCounters q s).state

/-! ### Taking frames -/

/-- A head entry takes from DX or DN (R48). -/
theorem drainQueue_ne_uq {d : Drain} {qs : Queues} {q : QueueName} (h : drainQueue d qs = some q) : q ≠ .uq := by
  rintro rfl
  unfold drainQueue at h
  dsimp only at h
  cases d <;> dsimp only at h <;> split at h <;> (try split at h) <;> simp at h

theorem phase_present {o : Option Phase} {p : Phase} (h : o = some p) : o ≠ none := by
  simp [h]

namespace KeepsTrunk

variable {P : State → Prop} (k : KeepsTrunk P)

include k

theorem countStation (n : Nat) (f : StationCounters → StationCounters) (s : State) (h : P s) :
    P (s.countStation n f) :=
  k.station n _ s (fun _ hr => hr) h

theorem stopTx (cut : Bool) (s : State) (h : P s) : P (s.stopTx cut) := k.line _ s (.inr rfl) h

theorem takeHeadFrame (q : QueueName) (s : State) (hq : q ≠ .uq) (h : P s) : P (s.takeHeadFrame q) :=
  k.taken q _ hq (k.engine _ s rfl .inl h)

theorem considerFill (s : State) (h : P s) : P s.considerFill := by
  unfold State.considerFill
  split
  · split
    · exact h
    · split
      · exact k.taken _ _ (by simp) h
      · exact h
  · exact h

theorem enqueue (q : QueueName) (f : Frame) (s : State) (h : P s) : P (s.enqueue q f) := by
  unfold State.enqueue
  split
  · unfold State.dropAtEnqueue
    dsimp only
    split
    · exact k.raised _ _ _ _ (k.dropped _ _ s h)
    · exact k.dropped _ _ s h
  · rename_i hroom
    have hjoined := k.joined q f s hroom h
    dsimp only
    split
    · exact k.considerFill _ hjoined
    · exact hjoined

/-! ### The Admission Unit -/

omit k in
theorem decideRules_length {p : Presented} {l l' : List Rule} {act : Action}
    (h : decideRules p l = some (act, l')) : l'.length = l.length := by
  induction l generalizing l' act with
  | nil => simp [decideRules] at h
  | cons r rest ih =>
    unfold decideRules at h
    split at h
    · simp only [Option.some.injEq, Prod.mk.injEq] at h
      simp [← h.2]
    · simp only [Option.map_eq_some_iff, Prod.mk.injEq, Prod.exists] at h
      obtain ⟨_, rest', hrest, -, rfl⟩ := h
      simp [ih hrest]

omit k in
/-- A decision changes no place of the rule table (R109). -/
theorem decide_rules_length (p : Presented) (a : Admission) : (a.decide p).2.rules.length = a.rules.length := by
  unfold Admission.decide
  split
  · rename_i hrules
    exact decideRules_length hrules
  · split <;> rfl

theorem offerAgent (p : Presented) (s : State) (h : P s) : P (s.offerAgent p) := by
  unfold State.offerAgent
  split
  · exact k.admission _ s rfl h
  · split
    · exact k.offered _ s (by assumption) h
    · exact k.agentCounters _ s h

theorem present (p : Presented) (s : State) (h : P s) : P (s.present p) := by
  have hdecided : P (s.onAdmission fun _ => (s.admission.decide p).2) :=
    k.admission _ s (decide_rules_length p _) h
  unfold State.present State.carryAction
  dsimp only
  split
  · exact k.enqueue _ _ _ hdecided
  · exact k.enqueue _ _ _ hdecided
  · exact hdecided
  · exact k.offerAgent p _ hdecided

/-! ### The trunk states and the phases -/

theorem enterStopped (s : State) (h : P s) : P s.enterStopped :=
  k.swapped _ (k.raised _ _ _ _ (k.stopped s h))

theorem enterBlocked (n : Option Nat) (c : TrunkCause) (s : State) (hp : s.engine.phase ≠ none) (h : P s) :
    P (s.enterBlocked n c) :=
  k.raised _ _ _ _ (k.raised _ _ _ _ (k.blocked _ hp (k.counters _ s h)))

theorem toTurnaround (s : State) (hp : s.engine.phase ≠ none) (h : P s) : P s.toTurnaround :=
  k.engine _ s rfl (fun _ => .inl hp) h

theorem toQuieting (s : State) (hp : s.engine.phase ≠ none) (h : P s) : P s.toQuieting :=
  k.engine _ s rfl (fun _ => .inl hp) h

theorem leadTo {next : State → State} (s : State) (hn : P (next s)) (h : P s) : P (s.leadTo next) := by
  unfold State.leadTo
  split
  · exact k.enterStopped s h
  · exact hn

/-! ### The outcome of a call -/

omit k in
/-- A report judges the record of a station and leaves it that station's (R61). -/
theorem judge_station (hd : Header) (p : Report) (r : Station) : (judge hd p r).1.station = r.station := by
  have hanswer (j : Judged) : (judgeAnswer p j).1.station = j.1.station := by
    unfold judgeAnswer
    dsimp only
    split_ifs <;> rfl
  have hmiss (j : Judged) : (judgeMiss hd.missLimit p j).1.station = j.1.station := by
    unfold judgeMiss
    dsimp only
    split_ifs <;> rfl
  have hstrike (j : Judged) : (judgeStrike hd.strikeLimit p j).1.station = j.1.station := by
    unfold judgeStrike
    dsimp only
    split_ifs <;> rfl
  have hoverrun (j : Judged) : (judgeOverrun p j).1.station = j.1.station := by
    unfold judgeOverrun
    split_ifs <;> rfl
  have hrun (j : Judged) : (judgeRun p j).1.station = j.1.station := by
    unfold judgeRun
    split_ifs <;> rfl
  simp only [judge, hrun, hoverrun, hstrike, hmiss, hanswer]

theorem report (n : Nat) (p : Report) (s : State) (h : P s) : P (s.report n p) := by
  unfold State.report
  split
  · exact h
  · rename_i r hr
    have hn : r.station = n := by simpa using List.find?_some hr
    have hjudged := k.station n (fun _ => (judge s.store.active.header p r).1) s
      (fun _ _ => (judge_station _ _ _).trans hn) h
    dsimp only
    split
    · exact hjudged
    · exact k.raised _ _ _ _ hjudged

theorem reportOutcome (o : CallOutcome) (s : State) (h : P s) : P (s.reportOutcome o) := k.report _ _ s h

theorem endCall (o : CallOutcome) (s : State) (hp : s.engine.phase ≠ none) (h : P s) : P (s.endCall o) := by
  have hreport := k.reportOutcome o s h
  cases o with
  | passed | answered | missed => exact k.leadTo _ (k.toTurnaround _ (by simpa) hreport) hreport
  | stray =>
    have hstray := k.raised .recovery (some s.calledStation)
      ⟨RecoveryCause.code .stray, byteOf (s.engine.index.getD 0xFF), 0, 0⟩ _
      (k.reportOutcome .stray _ (k.counters (fun c => { c with strays := c.strays + 1 }) s h))
    exact k.leadTo _ (k.toQuieting _ (by simpa) hstray) hstray
  | collided =>
    have hcollided := k.raised .recovery (some s.calledStation)
      ⟨RecoveryCause.code .collision, byteOf (s.engine.index.getD 0xFF), 0, 0⟩ _ hreport
    exact k.leadTo _ (k.toQuieting _ (by simpa) hcollided) hcollided
  | excess => exact k.leadTo _ (k.toQuieting _ (by simpa) hreport) hreport
  | overrun =>
    unfold State.endCall
    dsimp only
    split
    · exact k.enterStopped _ (k.counters _ _ hreport)
    · exact k.enterBlocked _ _ _ (by simpa) hreport

theorem continueCall (s : State) (hp : s.engine.phase ≠ none) (h : P s) : P s.continueCall :=
  k.engine _ s rfl (fun _ => .inl hp) h

theorem answerEnd (c : BurstClass) (s : State) (hp : s.engine.phase ≠ none) (h : P s) : P (s.answerEnd c) := by
  cases c with
  | validFrame bytes =>
    unfold State.answerEnd
    dsimp only
    split
    · exact k.endCall _ s hp h
    · unfold State.validFrameEnd
      refine k.continueCall _ ?_ ?_
      · split <;> simpa
      · split
        · exact k.present _ _ (k.countStation _ _ _ (k.engine _ s rfl .inl h))
        · exact k.countStation _ _ _ (k.engine _ s rfl .inl h)
  | badFrame reason =>
    unfold State.answerEnd
    dsimp only
    split
    · exact k.endCall _ s hp h
    · exact k.continueCall _ (by simpa) (k.countStation _ _ _ (k.engine _ s rfl .inl h))
  | marker m =>
    unfold State.answerEnd
    dsimp only
    split
    · exact k.endCall _ s hp h
    · exact k.endCall _ s hp h
  | badMarker | noise => exact k.endCall .stray s hp h

/-! ### Line events -/

theorem strayOutside (s : State) (h : P s) : P s.strayOutside := k.raised _ _ _ _ (k.counters _ s h)

theorem suspendFill (s : State) (h : P s) : P s.suspendFill := k.engine _ s rfl .inl h

theorem engineCarrierOn (s : State) (h : P s) : P s.engineCarrierOn := by
  unfold State.engineCarrierOn
  split
  case h_1 hp | h_2 hp | h_3 hp => exact k.engine _ s rfl (fun _ => .inl (phase_present hp)) h
  case h_4 hp => exact k.toQuieting _ (phase_present hp) (k.strayOutside s h)
  case h_5 => exact k.strayOutside s h
  case h_6 => exact k.suspendFill _ (k.strayOutside s h)
  case h_7 hp =>
    split
    · exact k.toQuieting _ (phase_present hp) (k.strayOutside s h)
    · exact h
  all_goals exact h

theorem engineBurstCollision (s : State) (h : P s) : P s.engineBurstCollision := by
  unfold State.engineBurstCollision
  split
  case h_1 hp | h_2 hp | h_3 hp | h_4 hp => exact k.endCall _ s (phase_present hp) h
  case h_5 => exact h

theorem engineOverrun (s : State) (h : P s) : P s.engineOverrun := by
  unfold State.engineOverrun
  split
  case h_1 hp => exact k.endCall _ s (phase_present hp) h
  case h_2 hp | h_3 hp | h_4 hp => exact k.enterBlocked _ _ s (phase_present hp) h
  case h_5 => exact h

theorem markerCollision (s : State) (h : P s) : P s.markerCollision := by
  unfold State.markerCollision
  split
  case h_1 hp | h_2 hp => exact k.toQuieting _ (phase_present hp) (k.raised _ _ _ _ (k.counters _ s h))
  case h_3 => exact h

theorem frameCollision (s : State) (h : P s) : P s.frameCollision := by
  have haborted := k.aborted _ (k.counters (fun c => { c with headCollisions := c.headCollisions + 1 }) s h)
  unfold State.frameCollision
  dsimp only
  split
  · exact k.enterStopped _ haborted
  · split
    case h_1 hp => exact k.toQuieting _ (phase_present hp) (k.raised _ _ _ _ haborted)
    case h_2 => exact k.suspendFill _ (k.raised _ _ _ _ haborted)
    case h_3 => exact haborted

theorem beginBurst (b : Bool) (s : State) (h : P s) : P (s.beginBurst b) := k.line _ s (.inl rfl) h

theorem burstCollision (s : State) (h : P s) : P s.burstCollision := by
  unfold State.burstCollision
  split
  · split
    · exact h
    · exact k.engineBurstCollision _ (k.line _ s (.inl rfl) h)
  · exact h

theorem carrierRises (s : State) (h : P s) : P s.carrierRises := by
  unfold State.carrierRises
  split
  · exact h
  · exact k.engineCarrierOn _ (k.beginBurst _ s h)

theorem carrierFalls (col : Bool) (bits : List Bool) (s : State) (h : P s) : P (s.carrierFalls col bits) := by
  unfold State.carrierFalls
  split
  · split
    · exact h
    · rename_i b _ _
      have hcounted := k.counters (BurstClass.count (Burst.classify { b with bits := bits })) _
        (k.line (fun l => { l with burst := none, lastOff := some s.now }) s (.inl rfl) h)
      unfold State.endBurst State.engineCarrierOff
      dsimp only
      split
      · rename_i hp
        exact k.answerEnd _ _ (phase_present (eq_of_beq hp)) hcounted
      · exact hcounted
  · exact h

theorem collisionBurst (s : State) (h : P s) : P s.collisionBurst :=
  k.burstCollision _ (k.engineCarrierOn _ (k.beginBurst _ s h))

theorem collisionRises (s : State) (h : P s) : P s.collisionRises := by
  unfold State.collisionRises
  split
  · unfold State.headCollision
    split
    · exact k.markerCollision _ (k.stopTx _ s h)
    · exact k.frameCollision _ (k.stopTx _ s h)
  · split
    · exact k.burstCollision s h
    · split
      · exact k.line _ s (.inl rfl) h
      · exact k.collisionBurst s h

theorem burstOverrun (s : State) (h : P s) : P s.burstOverrun := by
  unfold State.burstOverrun
  split
  · split
    · exact h
    · exact k.engineOverrun _ (k.line _ _ (.inl rfl) (k.reach _ s h))
  · exact h

theorem echoCarrier (cut : Bool) (s : State) (h : P s) : P (s.echoCarrier cut) := by
  unfold State.echoCarrier
  split
  · exact k.beginBurst _ s h
  · exact k.engineCarrierOn _ (k.beginBurst _ s h)

theorem endEcho (crs col : Bool) (s : State) (h : P s) : P (s.endEcho crs col) := by
  unfold State.endEcho
  split
  · split
    · rename_i e _ _
      have hover := k.line (fun l => { l with echo := none }) _ (.inl rfl)
        (k.pins (fun p => { p with tkCrs := crs, tkCol := col }) _ (k.reach e.ends s h))
      unfold State.echoOver
      dsimp only
      split
      · split
        · exact k.burstCollision _ (k.echoCarrier _ _ hover)
        · exact k.echoCarrier _ _ hover
      · split
        · exact k.collisionBurst _ hover
        · exact hover
    · exact h
  · exact h

/-! ### The ends of sendings and windows -/

theorem endMarker (s : State) (h : P s) : P s.endMarker := by
  unfold State.endMarker
  split
  · rename_i ends _
    have hquiet := k.stopTx false _ (k.reach ends s h)
    unfold State.markerSent
    split
    case h_1 hp => exact k.toTurnaround _ (phase_present hp) hquiet
    case h_2 hp => exact k.engine _ _ rfl (fun _ => .inl (phase_present hp)) (k.countStation _ _ _ hquiet)
    case h_3 => exact hquiet
  · exact h

theorem endHeadFrame (s : State) (h : P s) : P s.endHeadFrame := by
  unfold State.endHeadFrame
  split
  · rename_i ends _
    have hfreed := k.released _ (k.stopTx false _ (k.reach ends s h))
    unfold State.frameSent
    split
    · exact k.enterStopped _ hfreed
    · split
      case h_1 hp =>
        split
        · exact k.toTurnaround _ (phase_present hp) hfreed
        · exact k.engine _ _ rfl .inl hfreed
      case h_2 => exact k.engine _ _ rfl .inl hfreed
      case h_3 => exact hfreed
  · exact h

theorem expireAnswer (s : State) (h : P s) : P s.expireAnswer := by
  unfold State.expireAnswer
  split
  case h_1 hp _ => exact k.endCall _ _ (phase_present hp) (k.reach _ s h)
  case h_2 => exact h

theorem expireContinue (s : State) (h : P s) : P s.expireContinue := by
  unfold State.expireContinue
  split
  case h_1 hp _ | h_2 hp _ => exact k.endCall _ _ (phase_present hp) (k.reach _ s h)
  case h_3 => exact h

theorem stopNow (s : State) (h : P s) : P s.stopNow := by
  unfold State.stopNow
  split
  · exact k.enterStopped _ (k.stopTx _ s h)
  · exact k.enterStopped s h

/-- STOP_TRUNK: the trunk enters STOPPED at once, or STOPPING from RUNNING (R27). -/
theorem stopTrunk (s : State) (hs : s.engine.trunk = .running → P (s.enterTrunk .stopping)) (h : P s) :
    P s.stopTrunk := by
  unfold State.stopTrunk
  split
  case h_1 hrunning =>
    split
    · exact hs hrunning
    · exact k.stopNow s h
  case h_2 | h_3 => exact k.stopNow s h
  case h_4 | h_5 => exact h

end KeepsTrunk

/-! ### Rounds -/

namespace KeepsRounds

variable {P : State → Prop} (k : KeepsRounds P)

include k

/-- Where an entry phase may be entered: from another phase, or in RUNNING (R24). -/
def mayEnter (e : Engine) : Prop := e.phase ≠ none ∨ e.trunk = .running

omit k in
theorem mayEnter_of_phase {e : Engine} {p : Phase} (h : e.phase = some p) : mayEnter e := .inl (phase_present h)

theorem roundBoundary (s : State) (hp : mayEnter s.engine) (h : P s) : P s.roundBoundary := by
  unfold State.roundBoundary
  exact k.marker _ _ (k.counters _ _ (k.engine _ _ rfl (fun _ => by simpa [mayEnter] using hp) (k.swapped s h)))

theorem endRound (s : State) (hp : mayEnter s.engine) (h : P s) : P s.endRound := by
  have hended := k.engine (fun e => { e with index := none }) s rfl .inl h
  unfold State.endRound
  dsimp only
  split
  · exact k.considerFill _ (k.engine _ _ rfl (fun _ => hp) hended)
  · exact k.roundBoundary _ hp hended

theorem startEntries (l : List RoundEntry) (i : Nat) (s : State) (hp : mayEnter s.engine) (h : P s) :
    P (Machine.startEntries l i s) := by
  induction l generalizing i s with
  | nil => exact k.endRound s hp h
  | cons e rest ih =>
    have hindexed := k.engine (fun g => { g with index := some i }) s rfl .inl h
    unfold Machine.startEntries
    dsimp only
    split
    · split
      · rename_i q hq
        exact k.takeHeadFrame q _ (drainQueue_ne_uq hq) (k.engine _ _ rfl (fun _ => hp) hindexed)
      · exact ih _ _ hp hindexed
    · have hfirst := k.engine (fun g => { g with firstEntry := addFirst e.station g.firstEntry }) _ rfl .inl hindexed
      split
      · exact k.marker _ _ (k.engine _ _ rfl (fun _ => hp) hfirst)
      · exact ih _ _ hp (k.countStation _ _ _ hfirst)

theorem startEntry (s : State) (hp : mayEnter s.engine) (h : P s) : P s.startEntry := k.startEntries _ _ s hp h

theorem endTurnaround (s : State) (h : P s) : P s.endTurnaround := by
  unfold State.endTurnaround
  split
  case h_1 hp _ => exact k.startEntry _ (mayEnter_of_phase hp) (k.reach _ s h)
  case h_2 => exact h

theorem endGap (s : State) (h : P s) : P s.endGap := by
  unfold State.endGap
  split
  · rename_i t _
    have hover := k.engine (fun e => { e with gap := none }) _ rfl .inl (k.reach t s h)
    unfold State.afterGap
    dsimp only
    split
    case h_1 hp =>
      split
      · rename_i q hq
        obtain ⟨e, -, he⟩ := Option.bind_eq_some_iff.mp hq
        exact k.takeHeadFrame q _ (drainQueue_ne_uq he) hover
      · exact k.startEntry _ (mayEnter_of_phase hp) hover
    case h_2 => exact k.considerFill _ hover
    case h_3 => exact hover
  · exact h

theorem enterRunning (c : TrunkCause) (s : State) (hs : s.engine.trunk = .starting ∨ s.engine.trunk = .blocked)
    (h : P s) : P (s.enterRunning c) :=
  k.roundBoundary _ (.inr rfl) (k.raised _ _ _ _ (k.running s hs h))

theorem seeQuiet (s : State) (h : P s) : P s.seeQuiet := by
  unfold State.seeQuiet
  split
  · rename_i t _
    have hreached := k.reach t s h
    unfold State.quietSeen
    split
    case h_1 hs => exact k.enterRunning _ _ (.inl hs) hreached
    case h_2 hs => exact k.enterRunning _ _ (.inr hs) hreached
    case h_3 =>
      split
      case h_1 hp =>
        split
        · exact k.roundBoundary _ (mayEnter_of_phase hp) hreached
        · exact k.startEntry _ (mayEnter_of_phase hp) hreached
      case h_2 => exact k.considerFill _ (k.engine _ _ rfl .inl hreached)
      case h_3 => exact hreached
  · exact h

theorem expireFloor (s : State) (h : P s) : P s.expireFloor := by
  unfold State.expireFloor
  split
  · rename_i hfloor
    have hp : s.engine.phase = some .floor := by simp_all
    split
    · rename_i t _
      have hreached := k.reach t s h
      unfold State.floorPassed
      split
      · exact k.engine _ _ rfl .inl (k.toQuieting _ (phase_present hp) hreached)
      · exact k.roundBoundary _ (mayEnter_of_phase hp) hreached
    · exact h
  · exact h

end KeepsRounds

/-! ### The uplink port -/

namespace KeepsUplink

variable {P : State → Prop} (u : KeepsUplink P)

include u

theorem arbitrate (s : State) (h : P s) : P s.arbitrate := by
  unfold State.arbitrate
  split
  · unfold State.arbiterTake
    split
    · exact u.uplink _ s rfl h
    · split
      · exact u.uplink _ s rfl h
      · split
        · exact u.uplink _ _ rfl (u.takenUp s h)
        · exact h
  · exact h

theorem countPorts (f : PortCounters → PortCounters) (s : State) (h : P s) : P (s.countPorts f) :=
  u.uplink _ s rfl h

theorem enterGap (s : State) (h : P s) : P s.enterGap := u.uplink _ s rfl h

theorem beginReception (g : List (BitVec 4)) (s : State) (h : P s) : P (s.beginReception g) := by
  unfold State.beginReception
  split
  · exact u.uplink _ s rfl h
  · exact h

theorem offerManagement (k : KeepsTrunk P) (b : List Byte) (s : State) (h : P s) : P (s.offerManagement b) := by
  unfold State.offerManagement
  split
  · exact u.countPorts _ s h
  · rename_i hroom
    simp only [Bool.or_eq_true, decide_eq_true_eq, not_or, not_le] at hroom
    exact k.offered _ _ (by simpa using hroom.2) (u.countPorts _ s h)

theorem completeReception (k : KeepsTrunk P) (g : List (BitVec 4)) (x : Bool) (s : State) (h : P s) :
    P (s.completeReception g x) := by
  unfold State.completeReception
  split
  · have hover := u.uplink (fun v => { v with receiving := false }) s rfl h
    unfold State.checkFrame
    split
    · exact u.countPorts _ _ hover
    · split
      · exact u.countPorts _ _ hover
      · unfold State.goodFrame
        split
        · exact u.offerManagement k _ _ (u.countPorts _ _ hover)
        · exact k.present _ _ (u.countPorts _ _ hover)
  · exact h

theorem sourceSent (source : UplinkSource) (s : State) (h : P s) : P (s.sourceSent source) := by
  cases source with
  | response =>
    have hleft := u.answered _ (u.countPorts (fun c => { c with txResponses := c.txResponses + 1 }) s h)
    unfold State.sourceSent State.responseSent
    dsimp only
    split
    · exact u.reset _ hleft
    · exact u.enterGap _ hleft
  | notice number _ => exact u.enterGap _ (u.sent _ _ _ (u.countPorts _ s h))
  | forwarded => exact u.enterGap _ (u.countPorts _ _ (u.releasedUp s h))

theorem endTransmission (k : KeepsTrunk P) (s : State) (h : P s) : P s.endTransmission := by
  unfold State.endTransmission
  split
  · exact u.sourceSent _ _ (k.reach _ s h)
  · exact h
  · exact h

theorem endUplinkGap (k : KeepsTrunk P) (s : State) (h : P s) : P s.endUplinkGap := by
  unfold State.endUplinkGap
  split
  · exact u.uplink _ _ rfl (k.reach _ s h)
  · exact h
  · exact h

end KeepsUplink

/-! ### Every event and every step -/

/-- A command whose event may begin a marker. -/
def mayBeginMarker : Instr → Bool
  | .turnaroundEnd | .interFrameGapEnd | .quietInterval | .floorExpiry => true
  | _ => false

section
variable {P : State → Prop}

/-- The events that begin no marker keep what the changes of the blocks keep. -/
theorem lineEffect_keeps (k : KeepsTrunk P) (u : KeepsUplink P) {c : Instr} (hc : mayBeginMarker c = false)
    (s : State) (hs : s.resetRun = none) (h : P s) : P (lineEffect c s) := by
  cases c with
  | linkUp => exact u.rises s h
  | linkDown => exact u.falls s hs h
  | carrierOn => exact k.carrierRises s h
  | carrierOff _ col bits => exact k.carrierFalls col bits s h
  | collision => exact k.collisionRises s h
  | overrun => exact k.burstOverrun s h
  | echoAllowanceEnd crs col => exact k.endEcho crs col s h
  | markerEnd => exact k.endMarker s h
  | headFrameEnd => exact k.endHeadFrame s h
  | answerWindowExpiry => exact k.expireAnswer s h
  | continueWindowExpiry => exact k.expireContinue s h
  | turnaroundEnd | interFrameGapEnd | quietInterval | floorExpiry => cases hc
  | receiveCompletion _ groups rxError => exact u.completeReception k groups rxError s h
  | uplinkTransmissionEnd => exact u.endTransmission k s h
  | uplinkGapEnd => exact u.endUplinkGap k s h
  | leaseExpiry => exact u.expired s h
  | sessionIdleEnd address tag => exact u.idled address tag s h
  | retryTime number => exact u.retried number s h
  | secondsSinceResetTick => exact u.ticked s h
  | receiverBeginsFrame heard => exact u.beginReception heard.2 s h
  | ledTrunkFlash => exact u.flashed s h
  | _ => exact h

theorem KeepsTrunk.heard (k : KeepsTrunk P) (c : Instr) (s : State) (h : P s) : P (s.heard c) := by
  have hpass : s.pass (elapsed c) = s.reach (s.now + elapsed c) := by simp [State.pass, State.reach]
  unfold State.heard
  rw [hpass]
  exact k.pins _ _ (k.reach _ s h)

/-- What the changes of the blocks keep, and every take, every command outside the reset rules keeps. -/
theorem exec_keeps (k : KeepsRounds P) (u : KeepsUplink P)
    (hrequest : ∀ c row, rowOf c = some row → ∀ s, P s → P (s.takeRequest row)) {c : Instr} {s t : State}
    (hc : isResetCommand c = false) (ht : exec c s = .next t) (h : P s) : P t := by
  have hheard := k.heard c s h
  rw [exec_event hc, Host.Outcome.next.injEq] at ht
  subst ht
  unfold State.event
  split
  · exact hheard
  · rename_i hs
    refine u.arbitrate _ ?_
    cases hrow : rowOf c with
    | some row =>
      simp only [effect, hrow]
      exact hrequest c row hrow _ hheard
    | none =>
      simp only [effect, hrow]
      cases hm : mayBeginMarker c with
      | false => exact lineEffect_keeps k.toKeepsTrunk u hm _ hs hheard
      | true =>
        cases c with
        | turnaroundEnd => exact k.endTurnaround _ hheard
        | interFrameGapEnd => exact k.endGap _ hheard
        | quietInterval => exact k.seeQuiet _ hheard
        | floorExpiry => exact k.expireFloor _ hheard
        | _ => cases hm

/-- The end of a reset, with the events taken in it (R84, R139, R204). -/
theorem KeepsResets.endReset (r : KeepsResets P) (k : KeepsTrunk P) (u : KeepsUplink P) (crs link : Bool) (s : State)
    (h : P s) : P (s.endReset crs link) := by
  unfold State.endReset
  split
  · exact h
  · split
    · exact h
    · rename_i run _ _ t _
      have hafter := r.after run.kind _
        (k.pins (fun p => { p with link := link, tkCrs := crs }) _ (k.reach t s h))
      have hcarrier : P ((((s.reach t).onPins fun p => { p with link := link, tkCrs := crs }).afterReset
          run.kind).resetCarrier crs) := by
        unfold State.resetCarrier
        split
        · exact k.engineCarrierOn _ (k.beginBurst _ _ hafter)
        · exact hafter
      refine u.arbitrate _ ?_
      unfold State.resetLink
      split
      · exact u.rises _ (u.arbitrate _ hcarrier)
      · exact u.falls _ (by simp [State.afterReset, State.reset]) (u.arbitrate _ hcarrier)

/-- The reset commands, which act in a reset too (R204, R205). -/
theorem execReset_keeps (k : KeepsTrunk P) (u : KeepsUplink P) (r : KeepsResets P) {c : Instr} {s t : State}
    (hc : isResetCommand c = true) (ht : exec c s = .next t) (h : P s) : P t := by
  have hpass (dt : Nat) : P (s.pass dt) := by
    have : s.pass dt = s.reach (s.now + dt) := by simp [State.pass, State.reach]
    exact this ▸ k.reach _ s h
  cases c with
  | powerApplied dt => cases ht; exact r.powered _ (hpass dt)
  | rstnAsserted dt => cases ht; exact k.pins _ _ (r.asserted _ (hpass dt))
  | resetEnd crs link => cases ht; exact r.endReset k u crs link s h
  | supplySettled dt => cases ht; exact r.settled _ (hpass dt)
  | rstnDeasserted dt => cases ht; exact k.pins _ _ (r.freed _ (hpass dt))
  | _ => cases hc

/-- A property of the part that does not speak of the queue of commands, and that the changes of the blocks, every take
and every reset command keep, is kept by every step. -/
theorem step_keeps (hpending : ∀ l (s : State), P s → P { s with pending := l }) (k : KeepsRounds P)
    (u : KeepsUplink P) (hrequest : ∀ c row, rowOf c = some row → ∀ s, P s → P (s.takeRequest row))
    (r : KeepsResets P) {s t : State} (ht : step s = .next t) (h : P s) : P t := by
  unfold step at ht
  split at ht
  · cases ht
    exact h
  · rename_i c rest _
    cases hc : isResetCommand c with
    | false => exact exec_keeps k u hrequest hc ht (hpending rest s h)
    | true => exact execReset_keeps k.toKeepsTrunk u r hc ht (hpending rest s h)

theorem holds_of_permitted {q : Request} {a : Agent} (h : permissionRefusal .write q a = none) :
    a.holds q.src q.tag = true := by
  simp only [permissionRefusal] at h
  split_ifs at h
  simp_all

theorem KeepsAnswers.answer (a : KeepsAnswers P) {row : RequestRow} (hrow : row ∈ writingRows) (q : Request)
    (s : State) (hp : permissionRefusal row.permission q s.agent = none)
    (hs : s.agent.sessions.find? (Session.hasKey q.src q.tag) ≠ none) (h : P s) : P (row.answer q s).state := by
  simp only [writingRows, List.mem_cons, List.not_mem_nil, or_false] at hrow
  rcases hrow with rfl | rfl | rfl | rfl | rfl | rfl | rfl | rfl | rfl | rfl | rfl | rfl | rfl | rfl | rfl | rfl | rfl
    | rfl | rfl | rfl | rfl
  exacts [a.claim q s hs h, a.release q s h, a.writeRound q s (holds_of_permitted hp) h,
    a.setRoundParams q s (holds_of_permitted hp) h, a.commitRound q s h,
    a.disarmRound q s (holds_of_permitted hp) h, a.startTrunk q s h, a.stopTrunk q s h, a.enrolStation q s h, a.withdrawStation q s h,
    a.mute q s h, a.restore q s h, a.bind q s h, a.unbind q s h, a.writeRules q s h, a.setDefaults q s h,
    a.setQueueLimits q s h, a.flushQueue q s h, a.ackNotices q s h, a.counters q s h, a.counters q s h]

/-- A take keeps what the agent's changes, the enqueue of an answer and the writing rows' answers keep. -/
theorem takeRequest_keeps (g : KeepsAgent P) (a : KeepsAnswers P) (c : Instr) (row : RequestRow)
    (hrow : rowOf c = some row) (s : State) (h : P s) : P (s.takeRequest row) := by
  refine g.takeRequest row (fun q r hperm hsession hr => ?_) s h
  rcases rowOf_reads_or_writes hrow with hread | hmem
  · rw [hread]
    exact hr
  · exact a.answer hmem q r hperm hsession hr

end

end Sys2Proof.Machine
end

section
/-! PROOFS. The queue of commands (log 4) and the commands in a reset (R204): the statements O1, O2 and O3. -/

namespace Sys2Proof.Machine

open Sys2Proof.Safety

/-- Settles O1, by the two cases of the queue. -/
theorem stepTakesTheFrontCommandOrIdles : Obligations.StepTakesTheFrontCommandOrIdles :=
  ⟨fun _ _ _ => rfl, fun s h => by simp [step, h]⟩

/-! ### The queue of commands -/

section
variable (l : List Instr)

theorem keepsRounds_pending : KeepsRounds fun s => s.pending = l := by
  constructor
  · constructor <;> intros <;> simpa
  all_goals intros; simpa

theorem keepsUplink_pending : KeepsUplink fun s => s.pending = l := by
  constructor <;> intros <;> simpa

theorem keepsResets_pending : KeepsResets fun s => s.pending = l := by
  constructor <;> intros <;> simpa

theorem keepsAgent_pending : KeepsAgent fun s => s.pending = l :=
  .of_onAgent (fun _ _ h => h) fun _ _ h => by simpa

theorem keepsAnswers_pending : KeepsAnswers fun s => s.pending = l := by
  constructor <;> intros <;> simpa

end

/-- Settles O2: no change that a command is made of touches the queue. -/
theorem execKeepsTheQueue : Obligations.ExecKeepsTheQueue := by
  intro c s t ht
  cases hc : isResetCommand c with
  | false =>
    exact exec_keeps (keepsRounds_pending _) (keepsUplink_pending _)
      (takeRequest_keeps (keepsAgent_pending _) (keepsAnswers_pending _)) hc ht rfl
  | true => exact execReset_keeps (keepsRounds_pending _).toKeepsTrunk (keepsUplink_pending _) (keepsResets_pending _) hc ht rfl

/-- Settles O3: in a reset an event is the time that passes and the levels it reports. -/
theorem noEventDuringReset : Obligations.NoEventDuringReset := by
  intro c s hreset hc
  have hevent : (s.heard c).event (effect c) = s.heard c := by
    obtain ⟨r, hr⟩ := Option.ne_none_iff_exists'.mp hreset
    have : (s.heard c).resetRun = some r := hr
    simp [State.event, this]
  refine ⟨s.heard c, ?_, rfl, levels_rstn c s.pins⟩
  rw [exec_event hc, hevent]

end Sys2Proof.Machine
end

section
/-! PROOFS. The cells (R118): what each operation of the Queue Manager does to them, and the statement O53. -/

namespace Sys2Proof.Machine

open Sys2Proof.Safety

/-! ### The cells of the pool, the queues and the slots -/

/-- The free cells and the cells of every held frame. -/
def Queues.allCells (qs : Queues) : Nat :=
  qs.free + cellSum qs.dx.frames + cellSum qs.dn.frames + cellSum qs.uq.frames
    + slotCells (qs.trunkSlot.map TrunkSlot.frame) + slotCells qs.uplinkSlot

theorem cellLaw_iff (s : State) : CellLaw s ↔ s.queues.allCells = 512 := .rfl

@[simp] theorem cellSum_nil : cellSum [] = 0 := rfl

@[simp] theorem cellSum_cons (f : Frame) (l : List Frame) : cellSum (f :: l) = f.cells + cellSum l := by
  simp [cellSum]

@[simp] theorem cellSum_append (l l' : List Frame) : cellSum (l ++ l') = cellSum l + cellSum l' := by
  simp [cellSum]

/-- Where a frame joins a queue does not matter to the queue's cells (R120). -/
@[simp] theorem cellSum_joinFrames (f : Frame) (l : List Frame) : cellSum (joinFrames f l) = cellSum l + f.cells := by
  unfold joinFrames
  split
  · have hparts := congrArg cellSum (List.takeWhile_append_dropWhile (p := Frame.isExpedited) (l := l))
    simp only [cellSum_append, cellSum_cons] at hparts ⊢
    omega
  · simp

@[simp] theorem length_joinFrames (f : Frame) (l : List Frame) : (joinFrames f l).length = l.length + 1 := by
  unfold joinFrames
  split
  · have hparts := congrArg List.length (List.takeWhile_append_dropWhile (p := Frame.isExpedited) (l := l))
    simp only [List.length_append, List.length_cons] at hparts ⊢
    omega
  · simp

/-! ### The operations of the Queue Manager -/

/-- A change of a queue that leaves its frames, as of its counters or limits. -/
theorem allCells_on (q : QueueName) (f : Queue → Queue) (hf : ∀ x, (f x).frames = x.frames) (qs : Queues) :
    (qs.on q f).allCells = qs.allCells := by
  cases q <;> simp [Queues.allCells, Queues.on, hf]

/-- A frame that passes the checks of R124 finds its cells in the pool. -/
theorem cells_le_free_of_enqueue {q : QueueName} {c : Nat} {s : State} (h : enqueueFails q c s = none) :
    c ≤ s.queues.free := by
  simp only [enqueueFails] at h
  split_ifs at h
  omega

theorem allCells_join (q : QueueName) (f : Frame) (qs : Queues) (h : f.cells ≤ qs.free) :
    (qs.join q f).allCells = qs.allCells := by
  cases q <;> simp [Queues.allCells, Queues.join, Queues.on] <;> omega

theorem allCells_takeDown (q : QueueName) (qs : Queues) : (qs.takeDown q).allCells = qs.allCells := by
  unfold Queues.takeDown
  split
  · rename_i hslot hframes
    cases q <;> simp_all [Queues.allCells, Queues.on, Queues.get, slotCells] <;> omega
  · rfl

theorem allCells_takeUp (qs : Queues) : qs.takeUp.allCells = qs.allCells := by
  unfold Queues.takeUp
  split
  · rename_i hslot hframes
    simp [Queues.allCells, hslot, hframes, slotCells]
    omega
  · rfl

theorem allCells_releaseTrunk (c : QueueCounters → QueueCounters) (qs : Queues) :
    (qs.releaseTrunk c).allCells = qs.allCells := by
  unfold Queues.releaseTrunk
  split
  · rfl
  · rename_i slot hslot
    cases hq : slot.queue <;> simp [Queues.allCells, Queues.on, Queue.count, hslot, slotCells] <;> omega

theorem allCells_releaseUplink (c : QueueCounters → QueueCounters) (qs : Queues) :
    (qs.releaseUplink c).allCells = qs.allCells := by
  unfold Queues.releaseUplink
  split
  · rfl
  · rename_i f hslot
    simp [Queues.allCells, Queue.count, hslot, slotCells]
    omega

/-- The abort count of a frame is no part of its cells (R119, R132). -/
theorem cells_aborted (f : Frame) (n : Option Nat) : { f with abortCount := n }.cells = f.cells := rfl

theorem allCells_abort (qs : Queues) : qs.abort.allCells = qs.allCells := by
  unfold Queues.abort
  split
  · rfl
  · rename_i slot hslot
    dsimp only
    split
    · cases hq : slot.queue <;> simp [Queues.allCells, Queues.on, hslot, slotCells, cells_aborted] <;> omega
    · exact allCells_releaseTrunk _ qs

theorem allCells_flush (q : QueueName) (qs : Queues) : (qs.flush q).allCells = qs.allCells := by
  cases q <;> simp [Queues.allCells, Queues.flush, Queues.on, Queues.get, Queue.cellCount] <;> omega

theorem allCells_teardown (qs : Queues) : qs.teardown.allCells = qs.allCells :=
  (allCells_releaseUplink _ _).trans (allCells_flush _ qs)

theorem allCells_clearCounters (qs : Queues) : qs.clearCounters.allCells = qs.allCells := rfl

theorem takeFrame_queues (q : QueueName) (s : State) : (s.takeFrame q).queues = s.queues.takeDown q := by
  unfold State.takeFrame Queues.takeDown
  split <;> simp_all

/-- What the teardown leaves in the queues (R133, R149). -/
theorem teardown_queues (s : State) : s.teardown.queues = s.queues.teardown := by
  simp [State.teardown]

theorem linkFalls_queues (s : State) :
    s.linkFalls.queues = if s.uplink.link then s.queues.teardown else s.queues := by
  unfold State.linkFalls
  split <;> simp_all [teardown_queues]

/-! ### The law -/

theorem keepsRounds_cells : KeepsRounds CellLaw where
  reach _ _ h := h
  pins _ _ h := h
  line _ _ _ h := h
  counters _ _ h := h
  engine _ _ _ _ h := h
  raised _ _ _ _ h := h
  station _ _ _ _ h := h
  admission _ _ _ h := h
  agentCounters _ _ h := h
  offered _ _ _ h := h
  dropped q r s h := (allCells_on q (Queue.count (QueueCounters.drop r)) (fun _ => rfl) s.queues).trans h
  joined q f s hroom h := (allCells_join q f s.queues (cells_le_free_of_enqueue hroom)).trans h
  taken q s _ h := by
    rw [cellLaw_iff, takeFrame_queues]
    exact (allCells_takeDown q s.queues).trans h
  released s h := (allCells_releaseTrunk _ s.queues).trans h
  aborted s h := (allCells_abort s.queues).trans h
  swapped s h := by simpa [CellLaw] using h
  stopped _ h := h
  blocked _ _ h := h
  running _ _ h := h
  marker _ _ h := h

theorem keepsUplink_cells : KeepsUplink CellLaw where
  uplink _ _ _ h := h
  rises s h := by simpa [CellLaw] using h
  falls s _ h := by
    rw [cellLaw_iff, linkFalls_queues]
    split
    · exact (allCells_teardown s.queues).trans h
    · exact h
  takenUp s h := (allCells_takeUp s.queues).trans h
  releasedUp s h := (allCells_releaseUplink _ s.queues).trans h
  answered _ h := h
  reset _ h := h
  sent _ _ _ h := h
  retried n s h := by simpa [CellLaw] using h
  expired s h := by simpa [CellLaw] using h
  idled a t s h := by simpa [CellLaw] using h
  ticked _ h := h
  flashed s h := by simpa [CellLaw] using h

theorem keepsResets_cells : KeepsResets CellLaw where
  powered s h := by simpa [CellLaw] using h
  asserted s h := by simpa [CellLaw] using h
  freed s h := by simpa [CellLaw] using h
  settled _ h := h
  after _ _ _ := rfl

theorem keepsAgent_cells : KeepsAgent CellLaw :=
  .of_onAgent (fun _ _ h => h) fun f s h => keepsRounds_cells.enqueue .dx f s h

theorem allCells_answerSetQueueLimits (q : Request) (s : State) :
    (answerSetQueueLimits q s).state.queues.allCells = s.queues.allCells := by
  unfold answerSetQueueLimits
  dsimp only
  split
  · rfl
  · split
    · rfl
    · split
      · rfl
      · split
        · rfl
        · exact allCells_on _ _ (fun _ => by rfl) s.queues

theorem allCells_answerFlushQueue (q : Request) (s : State) :
    (answerFlushQueue q s).state.queues.allCells = s.queues.allCells := by
  unfold answerFlushQueue
  split
  · rfl
  · exact allCells_flush _ s.queues

/-- A clear zeroes counters alone: the blocks that hold a set of them stand, or stand with it cleared (R137, R196). -/
theorem counterSet_blocks {code station : Nat} {s : State} {c : CounterSet} (h : counterSet code station s = some c) :
    (c.cleared.queues = s.queues ∨ c.cleared.queues = s.queues.clearCounters)
      ∧ (c.cleared.admission = s.admission ∨ c.cleared.admission = s.admission.clearCounters)
      ∧ (c.cleared.notices = s.notices ∨ c.cleared.notices = { s.notices with counters := {} })
      ∧ (c.cleared.stations = s.stations ∨ c.cleared.stations =
          (s.onStation station fun r => { r with counters := {}, clearStamp := s.identity.seconds }).stations) := by
  unfold counterSet at h
  dsimp only at h
  split at h
  case h_3 =>
    obtain ⟨r, -, rfl⟩ := Option.map_eq_some_iff.mp h
    exact ⟨.inl rfl, .inl rfl, .inl rfl, .inr rfl⟩
  case h_4 => cases h; exact ⟨.inr rfl, .inl rfl, .inl rfl, .inl rfl⟩
  case h_5 => cases h; exact ⟨.inl rfl, .inr rfl, .inl rfl, .inl rfl⟩
  case h_7 => cases h; exact ⟨.inl rfl, .inl rfl, .inr rfl, .inl rfl⟩
  case h_8 => cases h
  all_goals
    cases h
    exact ⟨.inl rfl, .inl rfl, .inl rfl, .inl rfl⟩

theorem answerCounters_blocks (q : Request) (s : State) :
    ((answerCounters q s).state.queues = s.queues ∨ (answerCounters q s).state.queues = s.queues.clearCounters)
      ∧ ((answerCounters q s).state.admission = s.admission
          ∨ (answerCounters q s).state.admission = s.admission.clearCounters)
      ∧ ((answerCounters q s).state.notices = s.notices
          ∨ (answerCounters q s).state.notices = { s.notices with counters := {} })
      ∧ ((answerCounters q s).state.stations = s.stations ∨ ∃ n, (answerCounters q s).state.stations =
          (s.onStation n fun r => { r with counters := {}, clearStamp := s.identity.seconds }).stations) := by
  rcases answerCounters_state q s with h | ⟨c, hc, h⟩
  · rw [h]
    exact ⟨.inl rfl, .inl rfl, .inl rfl, .inl rfl⟩
  · obtain ⟨hq, ha, hn, hst⟩ := counterSet_blocks hc
    rw [h]
    exact ⟨hq, ha, hn, hst.imp_right fun hst => ⟨_, hst⟩⟩

theorem keepsAnswers_cells : KeepsAnswers CellLaw := by
  constructor
  case setQueueLimits => exact fun q s h => (allCells_answerSetQueueLimits q s).trans h
  case flushQueue => exact fun q s h => (allCells_answerFlushQueue q s).trans h
  case counters =>
    intro q s h
    rcases (answerCounters_blocks q s).1 with hq | hq <;> rw [cellLaw_iff, hq] <;> exact h
  all_goals intros; simpa [CellLaw]

/-- Settles O53: every operation of the Queue Manager moves cells between the pool, the queues and the slots. -/
theorem stepKeepsTheCells : Obligations.StepKeepsTheCells := fun _ _ h ht =>
  step_keeps (fun _ _ h => h) keepsRounds_cells keepsUplink_cells (takeRequest_keeps keepsAgent_cells keepsAnswers_cells)
    keepsResets_cells ht h

end Sys2Proof.Machine
end

section
/-! PROOFS. The limits of the queues, the agent's lists and the rule table (R99, R123, R124, R126, R155, R156): the
statement O54. -/

namespace Sys2Proof.Machine

open Sys2Proof.Safety

/-! ### A queue within its limits -/

theorem queueWithin_of_fewer {x y : Queue} (h : QueueWithin x) (hlen : y.frames.length ≤ x.frames.length)
    (hcells : cellSum y.frames ≤ cellSum x.frames) (hfl : y.frameLimit = x.frameLimit)
    (hcl : y.cellLimit = x.cellLimit) : QueueWithin y := by
  obtain ⟨h1, h2, h3, h4, h5, h6⟩ := h
  exact ⟨by omega, by omega, by omega, by omega, by omega, by omega⟩

/-- A change of a queue's counters alone. -/
theorem queueWithin_of_frames {x y : Queue} (h : QueueWithin x) (hf : y.frames = x.frames)
    (hfl : y.frameLimit = x.frameLimit) (hcl : y.cellLimit = x.cellLimit) : QueueWithin y :=
  queueWithin_of_fewer h (by rw [hf]) (by rw [hf]) hfl hcl

/-- One frame more, where the checks of the limits pass (R124, R132). -/
theorem queueWithin_of_more {x y : Queue} {c : Nat} (h : QueueWithin x) (hlen : y.frames.length = x.frames.length + 1)
    (hcells : cellSum y.frames = cellSum x.frames + c) (hfl : y.frameLimit = x.frameLimit)
    (hcl : y.cellLimit = x.cellLimit) (hroom : x.frames.length + 1 ≤ x.frameLimit)
    (hcellRoom : cellSum x.frames + c ≤ x.cellLimit) : QueueWithin y := by
  obtain ⟨h1, h2, h3, h4, h5, h6⟩ := h
  exact ⟨by omega, by omega, by omega, by omega, by omega, by omega⟩

/-- Every queue within its limits, and no frame of UQ in the trunk on-air slot. -/
def Queues.Within (qs : Queues) : Prop :=
  (∀ q, QueueWithin (qs.get q)) ∧ ∀ x, qs.trunkSlot = some x → x.queue ≠ .uq

theorem get_on (q q' : QueueName) (f : Queue → Queue) (qs : Queues) :
    (qs.on q f).get q' = if q' = q then f (qs.get q') else qs.get q' := by
  cases q <;> cases q' <;> rfl

theorem on_trunkSlot (q : QueueName) (f : Queue → Queue) (qs : Queues) : (qs.on q f).trunkSlot = qs.trunkSlot := by
  cases q <;> rfl

theorem on_uq_frames {q : QueueName} (hq : q ≠ .uq) (f : Queue → Queue) (qs : Queues) :
    (qs.on q f).uq = qs.uq := by
  cases q
  · rfl
  · rfl
  · exact absurd rfl hq

theorem Queues.Within.on {qs : Queues} (h : qs.Within) (q : QueueName) (f : Queue → Queue)
    (hf : QueueWithin (qs.get q) → QueueWithin (f (qs.get q))) : (qs.on q f).Within := by
  obtain ⟨hq, hslot⟩ := h
  refine ⟨fun q' => ?_, fun x hx => hslot x (on_trunkSlot q f qs ▸ hx)⟩
  rw [get_on]
  split
  · rename_i heq
    exact heq ▸ hf (hq q)
  · exact hq q'

/-- The pool's count and the uplink slot are no part of it. -/
theorem Queues.Within.of_get {qs qs' : Queues} (h : qs.Within) (hget : ∀ q, qs'.get q = qs.get q)
    (hslot : qs'.trunkSlot = qs.trunkSlot ∨ qs'.trunkSlot = none) : qs'.Within := by
  obtain ⟨hq, hs⟩ := h
  refine ⟨fun q => hget q ▸ hq q, fun x hx => ?_⟩
  rcases hslot with heq | hnone
  · exact hs x (heq ▸ hx)
  · rw [hnone] at hx
    cases hx

theorem Queues.Within.count {qs : Queues} (h : qs.Within) (q : QueueName) (c : QueueCounters → QueueCounters) :
    (qs.on q (Queue.count c)).Within :=
  h.on q _ fun hq => queueWithin_of_frames hq rfl rfl rfl

/-- A frame that passes the checks of R124 finds room, and the link UP if it is bound for UQ. -/
theorem room_of_enqueue {q : QueueName} {c : Nat} {s : State} (h : enqueueFails q c s = none) :
    (s.queues.get q).frames.length + 1 ≤ (s.queues.get q).frameLimit
      ∧ cellSum (s.queues.get q).frames + c ≤ (s.queues.get q).cellLimit
      ∧ (q = .uq → s.uplink.link = true) := by
  simp only [enqueueFails] at h
  split_ifs at h
  rename_i hlink hframes hcells _
  refine ⟨Nat.not_lt.mp hframes, Nat.not_lt.mp hcells, ?_⟩
  rintro rfl
  simpa using hlink

theorem Queues.Within.join {q : QueueName} {f : Frame} {s : State} (h : s.queues.Within)
    (hroom : enqueueFails q f.cells s = none) : (s.queues.join q f).Within := by
  obtain ⟨hframes, hcells, -⟩ := room_of_enqueue hroom
  exact (h.on q _ fun hq => queueWithin_of_more hq (by simp) (by simp) rfl rfl hframes hcells).of_get (fun _ => rfl)
    (.inl rfl)

theorem Queues.Within.takeDown {qs : Queues} (h : qs.Within) {q : QueueName} (hq : q ≠ .uq) :
    (qs.takeDown q).Within := by
  unfold Queues.takeDown
  split
  · rename_i f rest _ hframes
    refine ⟨((h.on q (fun x => { x with frames := rest }) fun hw =>
      queueWithin_of_fewer hw (by simp [hframes]) (by simp [hframes]) rfl rfl).1 ·), fun x hx => ?_⟩
    cases hx
    exact hq
  · exact h

theorem Queues.Within.takeUp {qs : Queues} (h : qs.Within) : qs.takeUp.Within := by
  unfold Queues.takeUp
  split
  · rename_i f rest _ hframes
    exact (h.on .uq (fun x => { x with frames := rest }) fun hw =>
      queueWithin_of_fewer hw (by simp [Queues.get, hframes]) (by simp [Queues.get, hframes]) rfl rfl).of_get
      (fun _ => rfl) (.inl rfl)
  · exact h

theorem Queues.Within.releaseTrunk {qs : Queues} (h : qs.Within) (c : QueueCounters → QueueCounters) :
    (qs.releaseTrunk c).Within := by
  unfold Queues.releaseTrunk
  split
  · exact h
  · rename_i slot _
    exact (h.count slot.queue c).of_get (fun _ => rfl) (.inr rfl)

theorem Queues.Within.releaseUplink {qs : Queues} (h : qs.Within) (c : QueueCounters → QueueCounters) :
    (qs.releaseUplink c).Within := by
  unfold Queues.releaseUplink
  split
  · exact h
  · exact (h.count .uq c).of_get (fun _ => rfl) (.inl rfl)

theorem Queues.Within.abort {qs : Queues} (h : qs.Within) : qs.abort.Within := by
  unfold Queues.abort
  split
  · exact h
  · dsimp only
    split
    · rename_i slot _ hroom
      simp only [Queue.hasPlaceFor, Bool.and_eq_true, decide_eq_true_eq] at hroom
      obtain ⟨-, hframes, hcells⟩ := hroom
      exact (h.on slot.queue _ fun hw =>
        queueWithin_of_more hw rfl ((cellSum_cons _ _).trans (Nat.add_comm _ _)) rfl rfl hframes hcells).of_get (fun _ => rfl) (.inr rfl)
    · exact h.releaseTrunk _

theorem Queues.Within.flush {qs : Queues} (h : qs.Within) (q : QueueName) : (qs.flush q).Within :=
  (h.on q (fun x => { x with
      frames := [],
      counters := { x.counters with flushed := x.counters.flushed + BitVec.ofNat 32 x.frameCount } })
    fun hw => queueWithin_of_fewer hw (Nat.zero_le _) (Nat.zero_le _) rfl rfl).of_get (fun _ => rfl) (.inl rfl)

theorem Queues.Within.clearCounters {qs : Queues} (h : qs.Within) : qs.clearCounters.Within :=
  ⟨fun q => queueWithin_of_frames (h.1 q) (by cases q <;> rfl) (by cases q <;> rfl) (by cases q <;> rfl), h.2⟩

/-! ### UQ while the link is DOWN -/

theorem releaseTrunk_uq (c : QueueCounters → QueueCounters) (qs : Queues) :
    (qs.releaseTrunk c).uq.frames = qs.uq.frames := by
  unfold Queues.releaseTrunk
  split
  · rfl
  · rename_i slot _
    cases hq : slot.queue <;> simp [Queues.on, Queue.count]

theorem releaseUplink_uq (c : QueueCounters → QueueCounters) (qs : Queues) :
    (qs.releaseUplink c).uq.frames = qs.uq.frames := by
  unfold Queues.releaseUplink
  split <;> rfl

/-- A cut frame returns to DX or DN, never to UQ (R121, R132). -/
theorem abort_uq {qs : Queues} (h : ∀ x, qs.trunkSlot = some x → x.queue ≠ .uq) :
    qs.abort.uq.frames = qs.uq.frames := by
  unfold Queues.abort
  split
  · rfl
  · rename_i slot hslot
    dsimp only
    split
    · exact congrArg Queue.frames (on_uq_frames (h slot hslot) _ qs)
    · exact releaseTrunk_uq _ qs

theorem takeDown_uq {q : QueueName} (hq : q ≠ .uq) (qs : Queues) : (qs.takeDown q).uq = qs.uq := by
  unfold Queues.takeDown
  split
  · exact on_uq_frames hq _ qs
  · rfl

theorem takeUp_uq {qs : Queues} (h : qs.uq.frames = []) : qs.takeUp.uq.frames = [] := by
  unfold Queues.takeUp
  split
  · rename_i hframes
    rw [h] at hframes
    cases hframes
  · exact h

theorem teardown_uq (qs : Queues) : qs.teardown.uq.frames = [] := releaseUplink_uq _ _

theorem answerFlushQueue_uq {q : Request} {s : State} (h : s.queues.uq.frames = []) :
    (answerFlushQueue q s).state.queues.uq.frames = [] := by
  unfold answerFlushQueue
  split
  · exact h
  · rename_i name _
    cases name <;> simp [okWith, Queues.flush, Queues.on, h]

/-! ### The law of the queues, the rules and the input list -/

/-- The limits but for the output list, whose place an answer takes only after a request was taken (R157). -/
structure Limited (s : State) : Prop where
  within : s.queues.Within
  closed : s.resetRun = none → s.uplink.link = false → s.queues.uq.frames = []
  rules : s.admission.rules.length = 16
  input : s.agent.input.length ≤ 4

theorem queueLaw_iff (s : State) : QueueLaw s ↔
    s.queues.Within ∧ (s.resetRun = none → s.uplink.link = false → s.queues.uq.frames = []) := by
  constructor
  · rintro ⟨hdx, hdn, huq, hslot, hclosed⟩
    exact ⟨⟨fun q => by cases q <;> assumption, hslot⟩, hclosed⟩
  · rintro ⟨⟨hq, hslot⟩, hclosed⟩
    exact ⟨hq .dx, hq .dn, hq .uq, hslot, hclosed⟩

/-- The queues after a reset are empty, with limits in their ranges (R123). -/
theorem reset_within : State.reset.queues.Within :=
  ⟨fun q => by cases q <;> (unfold QueueWithin; decide), fun x hx => by cases hx⟩

/-- A change of other blocks. -/
theorem Limited.of_eq {s t : State} (h : Limited s) (hq : t.queues = s.queues) (hr : t.resetRun = s.resetRun)
    (hl : t.uplink.link = s.uplink.link) (ha : t.admission = s.admission) (hi : t.agent.input = s.agent.input) :
    Limited t :=
  ⟨hq ▸ h.within, by rw [hq, hr, hl]; exact h.closed, ha ▸ h.rules, hi ▸ h.input⟩

/-- A change of the queues that leaves an empty UQ empty. -/
theorem Limited.onQueues {s : State} (h : Limited s) (f : Queues → Queues) (hw : (f s.queues).Within)
    (hu : s.uplink.link = false → s.queues.uq.frames = [] → (f s.queues).uq.frames = []) : Limited (s.onQueues f) :=
  ⟨hw, fun hr hl => hu hl (h.closed hr hl), h.rules, h.input⟩

theorem count_uq (q : QueueName) (c : QueueCounters → QueueCounters) (qs : Queues) :
    (qs.on q (Queue.count c)).uq.frames = qs.uq.frames := by
  cases q <;> rfl

theorem join_uq {q : QueueName} (hq : q ≠ .uq) (f : Frame) (qs : Queues) : (qs.join q f).uq = qs.uq :=
  on_uq_frames hq _ qs

theorem limited_takeFrame {q : QueueName} {s : State} (hq : q ≠ .uq) (h : Limited s) : Limited (s.takeFrame q) := by
  refine ⟨takeFrame_queues q s ▸ h.within.takeDown hq, fun hr hl => ?_, by simpa using h.rules, by simpa using h.input⟩
  rw [takeFrame_queues, takeDown_uq hq]
  exact h.closed (by simpa using hr) (by simpa using hl)

theorem keepsRounds_limits : KeepsRounds Limited where
  reach _ _ h := h.of_eq rfl rfl rfl rfl rfl
  pins _ _ h := h.of_eq rfl rfl rfl rfl rfl
  line _ _ _ h := h.of_eq rfl rfl rfl rfl rfl
  counters _ _ h := h.of_eq rfl rfl rfl rfl rfl
  engine _ _ _ _ h := h.of_eq rfl rfl rfl rfl rfl
  raised _ _ _ _ h := h.of_eq rfl rfl rfl rfl rfl
  station _ _ _ _ h := h.of_eq rfl rfl rfl rfl rfl
  admission _ _ hlen h := ⟨h.within, h.closed, hlen.trans h.rules, h.input⟩
  agentCounters _ _ h := h.of_eq rfl rfl rfl rfl rfl
  offered e s hroom h := ⟨h.within, h.closed, h.rules, by simpa [Config.inputPlaces] using hroom⟩
  dropped q r s h := h.onQueues _ (h.within.count q _) fun _ hu => (count_uq q _ s.queues).trans hu
  joined q f s hroom h := h.onQueues _ (h.within.join hroom) fun hlink hu => by
    have hq : q ≠ .uq := fun hq => by simp [(room_of_enqueue hroom).2.2 hq] at hlink
    rw [join_uq hq, hu]
  taken q s hq h := limited_takeFrame hq h
  released s h := h.onQueues _ (h.within.releaseTrunk _) fun _ hu => (releaseTrunk_uq _ s.queues).trans hu
  aborted s h := h.onQueues _ h.within.abort fun _ hu => (abort_uq h.within.2).trans hu
  swapped s h := h.of_eq (by simp) (by simp) (by simp) (by simp) (by simp)
  stopped _ h := h.of_eq rfl rfl rfl rfl rfl
  blocked _ _ h := h.of_eq rfl rfl rfl rfl rfl
  running _ _ h := h.of_eq rfl rfl rfl rfl rfl
  marker _ _ h := h.of_eq rfl rfl rfl rfl rfl

/-- A state in a reset: nothing is said of its UQ (R204). -/
theorem Limited.in_reset {s t : State} (h : Limited s) (hr : t.resetRun ≠ none) (hq : t.queues = s.queues)
    (ha : t.admission = s.admission) (hi : t.agent.input = s.agent.input) : Limited t :=
  ⟨hq ▸ h.within, fun hnone => absurd hnone hr, ha ▸ h.rules, hi ▸ h.input⟩

theorem teardown_input (s : State) :
    s.teardown.agent.input = s.agent.input.filter fun e => !e.fromUplink := by
  have hlease (r : State) : r.cutLease.agent.input = r.agent.input := by
    unfold State.cutLease
    split <;> simp [State.endLease]
  have hwait (r : State) : r.waitingReset.agent.input = r.agent.input := by
    unfold State.waitingReset
    split <;> rfl
  unfold State.teardown
  rw [hwait, hlease]
  simp [State.cutAgent, Agent.teardown]

theorem limited_linkFalls {s : State} (h : Limited s) : Limited s.linkFalls := by
  unfold State.linkFalls
  split
  · refine ⟨?_, fun _ _ => ?_, by simpa using h.rules, ?_⟩
    · rw [teardown_queues]
      exact (h.within.flush .uq).releaseUplink _
    · rw [teardown_queues, teardown_uq]
    · rw [teardown_input]
      exact (List.length_filter_le _ _).trans h.input
  · exact h

theorem limited_linkRises {s : State} (h : Limited s) : Limited s.linkRises := by
  unfold State.linkRises
  split
  · exact h
  · exact { within := h.within, closed := fun _ hl => by simp at hl, rules := h.rules, input := h.input }

theorem keepsUplink_limits : KeepsUplink Limited where
  uplink _ _ hl h := h.of_eq rfl rfl hl rfl rfl
  rises _ h := limited_linkRises h
  falls _ _ h := limited_linkFalls h
  takenUp _ h := h.onQueues _ h.within.takeUp fun _ hu => takeUp_uq hu
  releasedUp s h := h.onQueues _ (h.within.releaseUplink _) fun _ hu => (releaseUplink_uq _ s.queues).trans hu
  answered _ h := h.of_eq rfl rfl rfl rfl rfl
  reset _ h := h.in_reset (by simp [State.beginReset]) rfl rfl rfl
  sent _ _ _ h := h.of_eq rfl rfl rfl rfl rfl
  retried n s h := h.of_eq (by simp) (by simp) (by simp) (by simp) (by simp)
  expired s h := h.of_eq (by simp) (by simp) (by simp) (by simp) (by
    unfold State.expireLease
    split <;> simp [State.endLease])
  idled a t s h := h.of_eq (by simp) (by simp) (by simp) (by simp) (by
    unfold State.endIdleSession
    (repeat' split) <;> simp)
  ticked _ h := h.of_eq rfl rfl rfl rfl rfl
  flashed s h := h.of_eq (by simp) (by simp) (by simp) (by simp) (by simp)

theorem keepsResets_limits : KeepsResets Limited where
  powered s h := by
    unfold State.applyPower
    split <;> exact h.in_reset (by simp [State.beginReset]) rfl rfl rfl
  asserted s h := by
    unfold State.assertRstn
    split <;> exact h.in_reset (by simp [State.beginReset]) rfl rfl rfl
  freed s h := by
    unfold State.releaseRstn
    split
    · exact h
    · exact ⟨h.within, fun hr => h.closed (by simpa using hr), h.rules, h.input⟩
  settled s h := ⟨h.within, fun hr => h.closed (by simpa using hr), h.rules, h.input⟩
  after k s h :=
    { within := reset_within
      closed := fun _ _ => rfl
      rules := rfl
      input := Nat.zero_le _ }

theorem keepsAgent_limits : KeepsAgent Limited where
  counters _ _ h := h.of_eq rfl rfl rfl rfl rfl
  taken s h := ⟨h.within, h.closed, h.rules, (by simpa [State.removeTaken] using by have := h.input; omega)⟩
  opened q s _ h := h.of_eq rfl rfl rfl rfl (by simp)
  touched q s h := h.of_eq rfl rfl rfl rfl (by simp [Agent.touch])
  stored a t l s h := h.of_eq rfl rfl rfl rfl (by simp)
  waits _ _ h := h.of_eq rfl rfl rfl rfl rfl
  output _ _ h := h.of_eq rfl rfl rfl rfl rfl
  enqueue f s h := keepsRounds_limits.enqueue .dx f s h

/-! ### The requests -/

theorem writeRules_length {f : Nat} {new old : List Rule} (h : f + new.length ≤ old.length) :
    (writeRules f new old).length = old.length := by
  simp [writeRules]
  omega

@[simp] theorem itemsOf_length (size n : Nat) (l : List Byte) : (itemsOf size n l).length = n := by
  induction n generalizing l with
  | zero => rfl
  | succ n ih => simp [itemsOf, ih]

theorem answerWriteRules_length {q : Request} {s : State} (h : s.admission.rules.length = 16) :
    (answerWriteRules q s).state.admission.rules.length = 16 := by
  unfold answerWriteRules
  dsimp only
  split
  · exact h
  · split
    · exact h
    · rename_i hcount _
      refine (writeRules_length ?_).trans h
      simp [writeRuleItems, h]
      omega

theorem answerSetQueueLimits_within {q : Request} {s : State} (h : s.queues.Within) :
    (answerSetQueueLimits q s).state.queues.Within := by
  unfold answerSetQueueLimits
  dsimp only
  split
  · exact h
  · split
    · exact h
    · split
      · exact h
      · split
        · exact h
        · rename_i name _ hframes hcells hheld
          simp only [Bool.or_eq_true, decide_eq_true_eq, not_or, not_lt] at hframes hcells hheld
          exact h.on name _ fun _ => ⟨hheld.1, hheld.2, hframes.1, hframes.2, hcells.1, hcells.2⟩

theorem answerSetQueueLimits_uq (q : Request) (s : State) :
    (answerSetQueueLimits q s).state.queues.uq.frames = s.queues.uq.frames := by
  unfold answerSetQueueLimits
  dsimp only
  (repeat' split) <;> first | rfl | (rename_i name _ _ _ _; cases name <;> rfl)

theorem answerFlushQueue_within {q : Request} {s : State} (h : s.queues.Within) :
    (answerFlushQueue q s).state.queues.Within := by
  unfold answerFlushQueue
  split
  · exact h
  · exact h.flush _

theorem answerCounters_port (q : Request) (s : State) :
    (answerCounters q s).state.uplink.link = s.uplink.link
      ∧ (answerCounters q s).state.agent.input = s.agent.input := by
  rcases answerCounters_state q s with h | ⟨c, hc, h⟩
  · rw [h]
    exact ⟨rfl, rfl⟩
  · rw [h]
    obtain ⟨-, -, -, -, -, -, -, -, -, hinput, -, -, -, -, hlink, -⟩ := counterSet_frame _ _ _ _ hc
    exact ⟨hlink, hinput⟩

theorem keepsAnswers_limits : KeepsAnswers Limited := by
  constructor
  case writeRules =>
    exact fun q s h => ⟨by simpa using h.within, by simpa using h.closed, answerWriteRules_length h.rules,
      by simpa using h.input⟩
  case setDefaults =>
    refine fun q s h => ⟨by simpa using h.within, by simpa using h.closed, ?_, by simpa using h.input⟩
    unfold answerSetDefaults
    (repeat' split) <;> exact h.rules
  case setQueueLimits =>
    exact fun q s h => ⟨answerSetQueueLimits_within h.within,
      fun hr hl => (answerSetQueueLimits_uq q s).trans (h.closed (by simpa using hr) (by simpa using hl)),
      by simpa using h.rules, by simpa using h.input⟩
  case flushQueue =>
    exact fun q s h => ⟨answerFlushQueue_within h.within,
      fun hr hl => answerFlushQueue_uq (h.closed (by simpa using hr) (by simpa using hl)),
      by simpa using h.rules, by simpa using h.input⟩
  case counters =>
    intro q s h
    obtain ⟨hq, ha, -, -⟩ := answerCounters_blocks q s
    obtain ⟨hlink, hinput⟩ := answerCounters_port q s
    refine ⟨?_, fun hr hl => ?_, ?_, hinput ▸ h.input⟩
    · rcases hq with hq | hq <;> rw [hq]
      · exact h.within
      · exact h.within.clearCounters
    · have hu := h.closed (by simpa using hr) (hlink ▸ hl)
      rcases hq with hq | hq <;> rw [hq] <;> exact hu
    · rcases ha with ha | ha <;> rw [ha]
      · exact h.rules
      · exact (List.length_map _).trans h.rules
  case claim =>
    refine fun q s _ h => h.of_eq (by simp) (by simp) (by simp) (by simp) ?_
    unfold answerClaim
    dsimp only
    (repeat' split) <;> rfl
  case release =>
    refine fun q s h => h.of_eq (by simp) (by simp) (by simp) (by simp) ?_
    unfold answerRelease
    split <;> rfl
  case writeRound | setRoundParams | disarmRound =>
    exact fun q s _ h => h.of_eq (by simp) (by simp) (by simp) (by simp) (by simp)
  all_goals exact fun q s h => h.of_eq (by simp) (by simp) (by simp) (by simp) (by simp)

/-! ### The output list -/

theorem keepsAnswers_output (l : List OutputEntry) : KeepsAnswers fun s => s.agent.output = l := by
  constructor
  case claim =>
    intro q s _ h
    unfold answerClaim
    dsimp only
    (repeat' split) <;> exact h
  case release =>
    intro q s h
    unfold answerRelease
    split <;> exact h
  case counters =>
    intro q s h
    rcases answerCounters_state q s with ha | ⟨c, hc, ha⟩ <;> rw [ha]
    · exact h
    · obtain ⟨-, -, -, -, -, -, -, -, -, -, houtput, -⟩ := counterSet_frame _ _ _ _ hc
      exact houtput.trans h
  all_goals intros; simpa

theorem judge_output {c : Instr} {row : RequestRow} (hrow : rowOf c = some row) (b : List Byte) (q : Request)
    (s : State) (hs : s.agent.sessions.find? (Session.hasKey q.src q.tag) ≠ none) :
    (row.judge b q s).state.agent.output = s.agent.output := by
  unfold RequestRow.judge
  split
  · rfl
  · split
    · rfl
    · split
      · rfl
      · rename_i hperm
        split
        · rcases rowOf_reads_or_writes hrow with hread | hmem
          · rw [hread]
          · exact (keepsAnswers_output s.agent.output).answer hmem q s hperm hs rfl
        · rfl

/-- A response takes at most one place of the output list (R165). -/
theorem route_output (o : Port) (b : List Byte) (r : Bool) (s : State) {n : Nat} (h : s.agent.output.length ≤ n) :
    (s.route o b r).agent.output.length ≤ n + 1 := by
  cases o with
  | uplink => simpa [State.route] using h
  | trunk m =>
    rw [(route_trunk_agent m b r s).2.1]
    omega

section
variable {c : Instr} {row : RequestRow} (hrow : rowOf c = some row) {n : Nat}
include hrow

theorem stepsFour_output (b : List Byte) (q : Request) (x : Session) (s : State)
    (hs : s.agent.sessions.find? (Session.hasKey q.src q.tag) ≠ none) (h : s.agent.output.length ≤ n) :
    (s.stepsFour row b q x).agent.output.length ≤ n + 1 := by
  have hjudged : (State.storeAndRoute row q (row.judge b q s)).agent.output.length ≤ n + 1 := by
    refine route_output _ _ _ _ ?_
    simpa [countRefused_agent, judge_output hrow b q s hs] using h
  unfold State.stepsFour
  split
  · split
    · exact route_output _ _ _ _ h
    · exact hjudged
  · exact hjudged

theorem takeRequest_output {s : State} (h : s.agent.output.length ≤ 4) :
    (s.takeRequest row).agent.output.length ≤ 4 := by
  unfold State.takeRequest
  split
  · exact h
  · rename_i e he
    have hroom : s.removeTaken.agent.output.length ≤ 3 := by
      unfold State.takeable at he
      split at he
      · cases he
      · split_ifs at he with hcond
        simp only [Bool.and_eq_true, decide_eq_true_eq] at hcond
        exact Nat.lt_succ_iff.mp hcond.1.1
    have hrefused (st : Status) : (s.removeTaken.refuseUnstored st e.request).agent.output.length ≤ 4 :=
      route_output _ _ _ _ (by simpa [countRefused_agent] using hroom)
    unfold State.carry
    dsimp only
    split
    · exact hroom.trans (by omega)
    · split
      · exact hrefused _
      · unfold State.stepThree
        dsimp only
        split
        · refine stepsFour_output hrow _ _ _ _ ?_ (by simpa using hroom)
          simp [Agent.openSession, List.find?_append, Session.hasKey]
        · rename_i x hx
          split
          · refine stepsFour_output hrow _ _ _ _ ?_ (by simpa [Agent.touch] using hroom)
            simp only [onAgent_agent, Agent.touch, renewLease_fields, Agent.onSession]
            rw [find_map_key _ _ _ (by simp), hx]
            simp
          · exact hrefused _

end

/-- The output list holds no more than its places (R156). -/
def OutputLaw (s : State) : Prop := s.agent.output.length ≤ 4

theorem keepsRounds_output : KeepsRounds OutputLaw := by
  constructor
  · constructor <;> intros <;> simpa [OutputLaw] using by assumption
  all_goals intros; simpa [OutputLaw] using by assumption

theorem teardown_output (s : State) : s.teardown.agent.output = [] := by
  have hlease (r : State) : r.cutLease.agent.output = r.agent.output := by
    unfold State.cutLease
    split <;> simp [State.endLease]
  have hwait (r : State) : r.waitingReset.agent.output = r.agent.output := by
    unfold State.waitingReset
    split <;> rfl
  unfold State.teardown
  rw [hwait, hlease]
  rfl

theorem keepsUplink_output : KeepsUplink OutputLaw := by
  constructor
  case falls =>
    intro s _ h
    unfold State.linkFalls
    split
    · exact (congrArg List.length (teardown_output s)).le.trans (Nat.zero_le _)
    · exact h
  case answered =>
    intro s h
    have := List.length_tail (l := s.agent.output)
    unfold OutputLaw at *
    simp only [onAgent_agent]
    omega
  case reset => exact fun _ h => h
  case expired =>
    intro s h
    unfold State.expireLease
    split <;> exact h
  case idled =>
    intro a t s h
    unfold State.endIdleSession
    (repeat' split) <;> exact h
  all_goals intros; simpa [OutputLaw] using by assumption

theorem keepsResets_output : KeepsResets OutputLaw where
  powered s h := by
    unfold State.applyPower
    split <;> exact h
  asserted s h := by
    unfold State.assertRstn
    split <;> exact h
  freed s h := by simpa [OutputLaw] using h
  settled _ h := h
  after _ _ _ := Nat.zero_le 4

/-- Settles O54: what joins a queue or a list has passed the check of its place. -/
theorem stepKeepsTheLimits : Obligations.StepKeepsTheLimits := by
  rintro s t ⟨hqueues, hrules, hinput, houtput⟩ ht
  obtain ⟨hwithin, hclosed⟩ := (queueLaw_iff s).mp hqueues
  have hlimits : Limited t := step_keeps (fun _ _ h => ⟨h.within, h.closed, h.rules, h.input⟩) keepsRounds_limits
    keepsUplink_limits (takeRequest_keeps keepsAgent_limits keepsAnswers_limits) keepsResets_limits ht
    ⟨hwithin, hclosed, hrules, hinput⟩
  have hanswers : OutputLaw t := step_keeps (fun _ _ h => h) keepsRounds_output keepsUplink_output
    (fun _ _ hrow _ h => takeRequest_output hrow h) keepsResets_output ht houtput
  exact ⟨(queueLaw_iff t).mpr ⟨hlimits.within, hlimits.closed⟩, hlimits.rules, hlimits.input, hanswers⟩

end Sys2Proof.Machine
end

section
/-! PROOFS. The stations that the tables name have records (R11, R76): the statement O56. -/

namespace Sys2Proof.Machine

open Sys2Proof.Safety

/-! ### What the law asks of a change -/

theorem enrolled_mono {s t : State} {b : Bank} (h : Enrolled s b)
    (hst : ∀ r ∈ s.stations, ∃ r' ∈ t.stations, r'.station = r.station) : Enrolled t b := by
  intro e he hn
  obtain ⟨r, hr, hre⟩ := h e he hn
  obtain ⟨r', hr', heq⟩ := hst r hr
  exact ⟨r', hr', heq.trans hre⟩

/-- A change that leaves the tables and keeps a record for every number. -/
theorem enrolmentLaw_of_stations {s t : State} (h : EnrolmentLaw s) (hstore : t.store = s.store)
    (hst : ∀ r ∈ s.stations, ∃ r' ∈ t.stations, r'.station = r.station) : EnrolmentLaw t := by
  obtain ⟨hactive, hpending⟩ := h
  refine ⟨hstore ▸ enrolled_mono hactive hst, fun harmed => ?_⟩
  rw [hstore] at harmed ⊢
  exact enrolled_mono (hpending harmed) hst

theorem enrolmentLaw_of_eq {s t : State} (h : EnrolmentLaw s) (hstore : t.store = s.store)
    (hst : t.stations = s.stations) : EnrolmentLaw t :=
  enrolmentLaw_of_stations h hstore fun r hr => ⟨r, hst ▸ hr, rfl⟩

/-- A change of the tables under the same records. -/
theorem enrolmentLaw_of_store {s t : State} (hst : t.stations = s.stations) (hactive : Enrolled s t.store.active)
    (hpending : t.store.armed = true → Enrolled s t.store.pending) : EnrolmentLaw t :=
  have hmono (b : Bank) (h : Enrolled s b) : Enrolled t b := enrolled_mono h fun r hr => ⟨r, hst ▸ hr, rfl⟩
  ⟨hmono _ hactive, fun harmed => hmono _ (hpending harmed)⟩

/-- A change of one station's record that leaves it that station's. -/
theorem station_onStation {n : Nat} {f : Station → Station} {s : State}
    (hf : ∀ r, r.station = n → (f r).station = n) (r : Station) (hr : r ∈ s.stations) :
    ∃ r' ∈ (s.onStation n f).stations, r'.station = r.station := by
  refine ⟨if r.station == n then f r else r, List.mem_map_of_mem hr, ?_⟩
  split
  · rename_i hn
    rw [beq_iff_eq] at hn
    rw [hf r hn, hn]
  · rfl

theorem enrolmentLaw_swap {s : State} (h : Enrolled s s.store.pending) : EnrolmentLaw s.swap :=
  enrolmentLaw_of_store (by simp) h fun harmed => by cases harmed

theorem enrolmentLaw_swapPoint {s : State} (h : EnrolmentLaw s) : EnrolmentLaw s.swapPoint := by
  unfold State.swapPoint
  split
  · exact enrolmentLaw_swap (h.2 (by assumption))
  · exact h

/-- The revert of PENDING at the end of a lease (R20). -/
theorem endLease_store (s : State) : s.endLease.store =
    if s.store.armed then s.store else { s.store with pending := s.store.active } := rfl

theorem enrolmentLaw_endLease {s : State} (h : EnrolmentLaw s) : EnrolmentLaw s.endLease := by
  cases harmed : s.store.armed with
  | true => exact enrolmentLaw_of_eq h (by simp [endLease_store, harmed]) rfl
  | false =>
    refine enrolmentLaw_of_store (s := s) rfl ?_ fun ha => ?_
    · simpa [endLease_store, harmed] using h.1
    · simp [endLease_store, harmed] at ha

/-! ### The events -/

theorem keepsRounds_enrolment : KeepsRounds EnrolmentLaw where
  reach _ _ h := h
  pins _ _ h := h
  line _ _ _ h := h
  counters _ _ h := h
  engine _ _ _ _ h := h
  raised _ _ _ _ h := h
  station _ _ _ hf h := enrolmentLaw_of_stations h rfl (station_onStation hf)
  admission _ _ _ h := h
  agentCounters _ _ h := h
  offered _ _ _ h := h
  dropped _ _ _ h := h
  joined _ _ _ _ h := h
  taken q s _ h := enrolmentLaw_of_eq h (by simp) (by simp)
  released _ h := h
  aborted _ h := h
  swapped _ h := enrolmentLaw_swapPoint h
  stopped _ h := h
  blocked _ _ h := h
  running _ _ h := h
  marker _ _ h := h

theorem enrolmentLaw_linkFalls {s : State} (h : EnrolmentLaw s) : EnrolmentLaw s.linkFalls := by
  unfold State.linkFalls
  split
  · refine enrolmentLaw_of_eq (s := (s.cutUplink.onQueues Queues.teardown).cutAgent.cutLease) ?_
      (by simp [State.teardown]) (by simp [State.teardown])
    unfold State.cutLease
    split
    · exact h
    · exact enrolmentLaw_endLease (s := (s.cutUplink.onQueues Queues.teardown).cutAgent) h
  · exact h

theorem enrolmentLaw_expireLease {s : State} (h : EnrolmentLaw s) : EnrolmentLaw s.expireLease := by
  unfold State.expireLease
  split
  · exact h
  · exact enrolmentLaw_endLease (s := s.reach _) h

theorem keepsUplink_enrolment : KeepsUplink EnrolmentLaw where
  uplink _ _ _ h := h
  rises s h := enrolmentLaw_of_eq h (by simp) (by simp)
  falls s _ h := enrolmentLaw_linkFalls h
  takenUp _ h := h
  releasedUp _ h := h
  answered _ h := h
  reset _ h := h
  sent _ _ _ h := h
  retried n s h := enrolmentLaw_of_eq h (by simp) (by simp)
  expired s h := enrolmentLaw_expireLease h
  idled a t s h := enrolmentLaw_of_eq h (by simp) (by simp)
  ticked _ h := h
  flashed s h := enrolmentLaw_of_eq h (by simp) (by simp)

theorem keepsResets_enrolment : KeepsResets EnrolmentLaw where
  powered s h := enrolmentLaw_of_eq h (by simp) (by simp)
  asserted s h := enrolmentLaw_of_eq h (by simp) (by simp)
  freed s h := enrolmentLaw_of_eq h (by simp) (by simp)
  settled _ h := h
  after k s _ := ⟨(fun e he => by cases he), (fun harmed => by cases harmed)⟩

theorem keepsAgent_enrolment : KeepsAgent EnrolmentLaw :=
  .of_onAgent (fun _ _ h => h) fun f s h => keepsRounds_enrolment.enqueue .dx f s h

/-! ### The requests on the tables and on the records -/

/-- While PENDING is unarmed nothing is asked of it (R9, R10). -/
theorem enrolmentLaw_of_unarmed {s t : State} (h : EnrolmentLaw s) (hst : t.stations = s.stations)
    (hactive : t.store.active = s.store.active) (harmed : t.store.armed = false) : EnrolmentLaw t :=
  enrolmentLaw_of_store hst (hactive ▸ h.1) fun ha => by rw [harmed] at ha; cases ha

theorem answerWriteRound_enrolment (q : Request) {s : State} (h : EnrolmentLaw s) :
    EnrolmentLaw (answerWriteRound q s).state := by
  unfold answerWriteRound
  dsimp only
  split_ifs with harmed
  · exact h
  · exact h
  · exact h
  · exact h
  · split
    · exact h
    · exact enrolmentLaw_of_unarmed h rfl rfl (Bool.eq_false_iff.mpr harmed)

theorem answerSetRoundParams_enrolment (q : Request) {s : State} (h : EnrolmentLaw s) :
    EnrolmentLaw (answerSetRoundParams q s).state := by
  unfold answerSetRoundParams
  split_ifs with harmed
  · exact h
  · split
    · exact h
    · exact enrolmentLaw_of_unarmed h rfl rfl (Bool.eq_false_iff.mpr harmed)

/-- COMMIT_ROUND swaps or arms a table whose stations are all enrolled (R11). -/
theorem answerCommitRound_enrolment (q : Request) {s : State} (h : EnrolmentLaw s) :
    EnrolmentLaw (answerCommitRound q s).state := by
  unfold answerCommitRound
  split
  · exact h
  · split
    · exact h
    · split
      · exact h
      · rename_i hnone
        rw [firstFailing_eq_findIdx?, List.findIdx?_eq_none_iff] at hnone
        have hpending : Enrolled s s.store.pending := fun e he hn => by
          have hentry : entryEnrolled s e = true := by simpa using hnone e he
          exact ((entryEnrolled_iff s e).mp hentry).resolve_left hn
        split
        · exact enrolmentLaw_swap hpending
        · exact enrolmentLaw_of_store (s := s) rfl h.1 fun _ => hpending

theorem answerDisarmRound_enrolment (q : Request) {s : State} (h : EnrolmentLaw s) :
    EnrolmentLaw (answerDisarmRound q s).state := by
  unfold answerDisarmRound
  split_ifs
  · exact enrolmentLaw_of_unarmed h rfl rfl rfl
  · exact h

theorem mem_insertStation {r x : Station} {l : List Station} : x ∈ insertStation r l ↔ x = r ∨ x ∈ l := by
  induction l with
  | nil => simp [insertStation]
  | cons y rest ih =>
    unfold insertStation
    split
    · simp
    · simp only [List.mem_cons, ih]
      tauto

theorem answerEnrolStation_enrolment (q : Request) {s : State} (h : EnrolmentLaw s) :
    EnrolmentLaw (answerEnrolStation q s).state := by
  unfold answerEnrolStation
  dsimp only
  split_ifs
  · exact h
  · exact h
  · exact h
  · exact enrolmentLaw_of_stations h rfl fun r hr => ⟨r, mem_insertStation.mpr (.inr hr), rfl⟩

theorem firstNaming_eq_none {n : Nat} {b : Bank} (h : firstNaming n b = none) : ∀ e ∈ b.entries, e.station ≠ n := by
  rw [firstNaming, firstFailing_eq_findIdx?, List.findIdx?_eq_none_iff] at h
  exact fun e he => by simpa using h e he

/-- A station that is not in use is named by no table that the law speaks of (R76). -/
theorem not_named_of_not_inUse {n : Nat} {st : Store} (h : stationInUse n st = none) :
    (∀ e ∈ st.active.entries, e.station ≠ n) ∧ (st.armed = true → ∀ e ∈ st.pending.entries, e.station ≠ n) := by
  unfold stationInUse at h
  split at h
  · cases h
  · rename_i hactive
    refine ⟨firstNaming_eq_none hactive, fun harmed => ?_⟩
    rw [if_pos harmed, Option.map_eq_none_iff] at h
    exact firstNaming_eq_none h

theorem enrolled_withdraw {s t : State} {b : Bank} {n : Nat} (h : Enrolled s b) (hn : ∀ e ∈ b.entries, e.station ≠ n)
    (hst : t.stations = s.stations.filter fun x => x.station != n) : Enrolled t b := by
  intro e he hne
  obtain ⟨r, hr, hre⟩ := h e he hne
  refine ⟨r, ?_, hre⟩
  rw [hst, List.mem_filter]
  exact ⟨hr, by simpa [hre] using hn e he⟩

theorem answerWithdrawStation_enrolment (q : Request) {s : State} (h : EnrolmentLaw s) :
    EnrolmentLaw (answerWithdrawStation q s).state := by
  unfold answerWithdrawStation
  dsimp only
  split_ifs
  · exact h
  · split
    · exact h
    · split
      · exact h
      · rename_i hfree
        obtain ⟨hactive, hpending⟩ := not_named_of_not_inUse hfree
        exact ⟨enrolled_withdraw h.1 hactive rfl, fun harmed => enrolled_withdraw (h.2 harmed) (hpending harmed) rfl⟩

/-- An action of SET_STATION meets a record of the station asked for (R77). -/
theorem setStation_state {P : State → Prop} {act : Station → Answer} {q : Request} {s : State} (h : P s)
    (hact : ∀ r, s.station? (numAt q.body 0) = some r → P (act r).state) : P (setStation act q s).state := by
  unfold setStation
  dsimp only
  split_ifs
  · exact h
  · exact h
  · split
    · exact h
    · exact hact _ (by assumption)

theorem enrolmentLaw_replace {s : State} (h : EnrolmentLaw s) {n : Nat} {r : Station} (hr : r.station = n) :
    EnrolmentLaw (s.onStation n fun _ => r) :=
  enrolmentLaw_of_stations h rfl (station_onStation fun _ _ => hr)

theorem keepsAnswers_enrolment : KeepsAnswers EnrolmentLaw where
  claim q s _ h := enrolmentLaw_of_eq h (by simp) (by simp)
  release q s h := by
    unfold answerRelease
    split
    · exact enrolmentLaw_endLease h
    · exact h
  writeRound q s _ h := answerWriteRound_enrolment q h
  setRoundParams q s _ h := answerSetRoundParams_enrolment q h
  commitRound q s h := answerCommitRound_enrolment q h
  disarmRound q s _ h := answerDisarmRound_enrolment q h
  startTrunk q s h := enrolmentLaw_of_eq h (by simp) (by simp)
  stopTrunk _ s h := keepsRounds_enrolment.stopTrunk s (fun _ => h) h
  enrolStation q s h := answerEnrolStation_enrolment q h
  withdrawStation q s h := answerWithdrawStation_enrolment q h
  mute q s h := setStation_state h fun r _ => by
    unfold actMute
    dsimp only [okWith]
    split <;> exact enrolmentLaw_replace h (r := r.mute) rfl
  restore q s h := setStation_state h fun r _ => enrolmentLaw_replace h (r := r.restore) rfl
  bind q s h := setStation_state h fun r _ => by
    unfold actBind
    dsimp only
    split
    · exact h
    · exact enrolmentLaw_replace h (r := { r with bound := some (addrAt q.body 2) }) rfl
  unbind q s h := setStation_state h fun r _ => enrolmentLaw_replace h (r := { r with bound := none }) rfl
  writeRules q s h := enrolmentLaw_of_eq h (by simp) (by simp)
  setDefaults q s h := enrolmentLaw_of_eq h (by simp) (by simp)
  setQueueLimits q s h := enrolmentLaw_of_eq h (by simp) (by simp)
  flushQueue q s h := enrolmentLaw_of_eq h (by simp) (by simp)
  ackNotices q s h := enrolmentLaw_of_eq h (by simp) (by simp)
  counters q s h := by
    obtain ⟨-, -, -, hst | ⟨n, hst⟩⟩ := answerCounters_blocks q s
    · exact enrolmentLaw_of_eq h (by simp) hst
    · exact enrolmentLaw_of_stations h (by simp) (hst ▸ station_onStation fun _ hr => hr)

/-- Settles O56: only COMMIT_ROUND makes a table one the law speaks of, and WITHDRAW_STATION spares the stations it
names. -/
theorem stepKeepsEnrolment : Obligations.StepKeepsEnrolment := fun _ _ h ht =>
  step_keeps (fun _ _ h => h) keepsRounds_enrolment keepsUplink_enrolment
    (takeRequest_keeps keepsAgent_enrolment keepsAnswers_enrolment) keepsResets_enrolment ht h

end Sys2Proof.Machine
end

section
/-! PROOFS. The sessions and the lease holder's among them (R160 to R164, R169): the statement O57. -/

namespace Sys2Proof.Machine

open Sys2Proof.Safety

/-! ### The law of an agent -/

/-- The key of a session (R160). -/
def Session.key (x : Session) : Addr × BitVec 16 := (x.address, x.tag)

/-- At most four sessions with distinct keys, the lease holder's among them. -/
structure Agent.SessionsHold (a : Agent) : Prop where
  places : a.sessions.length ≤ 4
  distinct : (a.sessions.map Session.key).Nodup
  holder : ∀ l, a.lease = some l → (l.address, l.tag) ∈ a.sessions.map Session.key

theorem sessionLaw_iff (s : State) : SessionLaw s ↔ s.agent.SessionsHold := by
  have hmem (l : Lease) : (l.address, l.tag) ∈ s.agent.sessions.map Session.key
      ↔ ∃ x ∈ s.agent.sessions, x.address = l.address ∧ x.tag = l.tag := by
    simp [Session.key]
  constructor
  · rintro ⟨hplaces, hdistinct, hholder⟩
    exact ⟨hplaces, hdistinct, fun l hl => (hmem l).mpr (hholder l hl)⟩
  · rintro ⟨hplaces, hdistinct, hholder⟩
    exact ⟨hplaces, hdistinct, fun l hl => (hmem l).mp (hholder l hl)⟩

theorem Agent.SessionsHold.of_eq {a b : Agent} (h : a.SessionsHold) (hs : b.sessions = a.sessions)
    (hl : b.lease = a.lease) : b.SessionsHold :=
  ⟨hs ▸ h.places, hs ▸ h.distinct, by rw [hs, hl]; exact h.holder⟩

/-- Without a lease nothing is said of a holder. -/
theorem Agent.SessionsHold.of_free {a b : Agent} (h : a.SessionsHold) (hs : b.sessions.Sublist a.sessions)
    (hl : b.lease = none) : b.SessionsHold :=
  ⟨hs.length_le.trans h.places, (hs.map _).nodup h.distinct, fun l hl' => by rw [hl] at hl'; cases hl'⟩

/-! ### The changes of the session table -/

theorem holds_iff (a : Agent) (address : Addr) (tag : BitVec 16) :
    a.holds address tag = true ↔ ∃ l, a.lease = some l ∧ l.address = address ∧ l.tag = tag := by
  unfold Agent.holds
  cases a.lease <;> simp

/-- Records that do not hold the lease may go. -/
theorem Agent.SessionsHold.remove {a b : Agent} (h : a.SessionsHold) {address : Addr} {tag : BitVec 16}
    (hfree : a.holds address tag = false) (hs : b.sessions = a.sessions.filter fun x => !x.hasKey address tag)
    (hl : b.lease = a.lease) : b.SessionsHold := by
  have hsub : b.sessions.Sublist a.sessions := hs ▸ List.filter_sublist
  refine ⟨hsub.length_le.trans h.places, (hsub.map _).nodup h.distinct, fun l hlease => ?_⟩
  rw [hl] at hlease
  obtain ⟨x, hx, hkey⟩ := List.mem_map.mp (h.holder l hlease)
  refine List.mem_map.mpr ⟨x, ?_, hkey⟩
  rw [hs, List.mem_filter]
  refine ⟨hx, ?_⟩
  simp only [Session.key, Prod.mk.injEq] at hkey
  have hother : ¬ (l.address = address ∧ l.tag = tag) := fun ⟨ha, ht⟩ => by
    rw [(holds_iff a address tag).mpr ⟨l, hlease, ha, ht⟩] at hfree
    cases hfree
  have hstays : x.hasKey address tag = false :=
    Bool.eq_false_iff.mpr (by rwa [ne_eq, hasKey_iff, hkey.1, hkey.2])
  rw [hstays]
  rfl

/-- Of a full table with distinct keys some record does not hold the lease (R162). -/
theorem exists_victim {a : Agent} (h : a.SessionsHold) (hfull : 4 ≤ a.sessions.length) (now : Nat) :
    ∃ v, a.victim now = some v ∧ v ∈ a.sessions ∧ a.holds v.address v.tag = false := by
  have hfold : ∀ (l : List Session) (best : Option Session) (v : Session),
      l.foldl (longerIdle now) best = some v → v ∈ l ∨ best = some v := by
    intro l
    induction l with
    | nil => exact fun best v hv => .inr hv
    | cons x rest ih =>
      intro best v hv
      rcases ih _ v hv with hmem | hbest
      · exact .inl (List.mem_cons_of_mem _ hmem)
      · unfold longerIdle at hbest
        (repeat' split at hbest) <;> simp_all
  cases hv : a.victim now with
  | some v =>
    refine ⟨v, rfl, ?_⟩
    rcases hfold _ none v hv with hmem | hnone
    · simpa [List.mem_filter] using hmem
    · cases hnone
  | none =>
    have hall := (victim_eq_none now a).mp hv
    obtain ⟨x, y, rest, hrest⟩ : ∃ x y rest, a.sessions = x :: y :: rest := by
      match hs : a.sessions, hfull with
      | x :: y :: rest, _ => exact ⟨x, y, rest, rfl⟩
    obtain ⟨l, hl, hxa, hxt⟩ := (holds_iff a _ _).mp (hall x (by simp [hrest]))
    obtain ⟨l', hl', hya, hyt⟩ := (holds_iff a _ _).mp (hall y (by simp [hrest]))
    rw [hl, Option.some.injEq] at hl'
    subst hl'
    have hdistinct := h.distinct
    simp [hrest, Session.key, ← hxa, ← hxt, ← hya, ← hyt] at hdistinct

/-- A place is made: the records left are fewer than four (R162). -/
theorem Agent.SessionsHold.makeRoom {a : Agent} (h : a.SessionsHold) (now : Nat) :
    (a.makeRoom now).SessionsHold ∧ (a.makeRoom now).sessions.length < 4 := by
  unfold Agent.makeRoom
  split
  · exact ⟨h, by assumption⟩
  · rename_i hfull
    obtain ⟨v, hv, hmem, hfree⟩ := exists_victim h (Nat.not_lt.mp hfull) now
    rw [hv]
    refine ⟨h.remove hfree rfl rfl, ?_⟩
    have hless : (a.sessions.filter fun x => !x.hasKey v.address v.tag).length < a.sessions.length :=
      List.length_filter_lt_length_iff_exists.mpr ⟨v, hmem, by simp [Session.hasKey]⟩
    exact hless.trans_le h.places

/-- A new session joins under a key that no record has (R161). -/
theorem Agent.SessionsHold.openSession {a : Agent} (h : a.SessionsHold) (now : Nat) {q : Request}
    (hnew : a.sessions.find? (Session.hasKey q.src q.tag) = none) : (a.openSession now q).SessionsHold := by
  obtain ⟨hroom, hless⟩ := h.makeRoom now
  have hnone := find_makeRoom_none now a _ hnew
  refine ⟨?_, ?_, fun l hl => ?_⟩
  · simp only [Agent.openSession, List.length_append, List.length_singleton]
    omega
  · simp only [Agent.openSession, List.map_append, List.map_cons, List.map_nil]
    refine List.nodup_append'.mpr ⟨hroom.distinct, List.nodup_singleton _, ?_⟩
    rw [List.disjoint_singleton]
    intro hmem
    obtain ⟨x, hx, hkey⟩ := List.mem_map.mp hmem
    simp only [Session.key, Prod.mk.injEq] at hkey
    exact List.find?_eq_none.mp hnone x hx (by simpa using hkey)
  · simp only [Agent.openSession, List.map_append]
    exact List.mem_append_left _ (hroom.holder l (by simpa using hl))

/-- A change of one session's record that leaves its key. -/
theorem keys_onSession (address : Addr) (tag : BitVec 16) {f : Session → Session} (hf : ∀ x, (f x).key = x.key)
    (a : Agent) : (a.onSession address tag f).sessions.map Session.key = a.sessions.map Session.key := by
  simp only [Agent.onSession, List.map_map]
  refine List.map_congr_left fun x _ => ?_
  simp only [Function.comp]
  split
  · exact hf x
  · rfl

theorem Agent.SessionsHold.of_keys {a b : Agent} (h : a.SessionsHold)
    (hk : b.sessions.map Session.key = a.sessions.map Session.key)
    (hl : ∀ l, b.lease = some l → ∃ l', a.lease = some l' ∧ l'.address = l.address ∧ l'.tag = l.tag) :
    b.SessionsHold := by
  have hlen := congrArg List.length hk
  simp only [List.length_map] at hlen
  refine ⟨hlen ▸ h.places, hk ▸ h.distinct, fun l hlease => ?_⟩
  obtain ⟨l', hlease', ha, ht⟩ := hl l hlease
  rw [hk, ← ha, ← ht]
  exact h.holder l' hlease'

/-- A renewal leaves the holder (R171). -/
theorem renewLease_holder {now : Nat} {address : Addr} {tag : BitVec 16} {a : Agent} {l : Lease}
    (h : (a.renewLease now address tag).lease = some l) :
    ∃ l', a.lease = some l' ∧ l'.address = l.address ∧ l'.tag = l.tag := by
  unfold Agent.renewLease at h
  split at h
  · obtain ⟨l', hl', rfl⟩ := Option.map_eq_some_iff.mp h
    exact ⟨l', hl', rfl, rfl⟩
  · exact ⟨l, h, rfl, rfl⟩

theorem Agent.SessionsHold.touch {a : Agent} (h : a.SessionsHold) (now : Nat) (q : Request) :
    (a.touch now q).SessionsHold := by
  refine h.of_keys ?_ fun l hl => ?_
  · simpa [Agent.touch] using keys_onSession q.src q.tag (f := fun x => { x with lastTake := now }) (fun _ => rfl) a
  · simpa using renewLease_holder hl

theorem Agent.SessionsHold.onSession {a : Agent} (h : a.SessionsHold) (address : Addr) (tag : BitVec 16)
    (l : Option (BitVec 16 × List Byte)) : (a.onSession address tag fun x => { x with last := l }).SessionsHold :=
  h.of_keys (keys_onSession _ _ (fun _ => by rfl) _) fun l' hl => ⟨l', by simpa using hl, rfl, rfl⟩

/-! ### The events and the requests -/

/-- The law of the agent's sessions, of a state. -/
def SessionsHeld (s : State) : Prop := s.agent.SessionsHold

theorem keepsRounds_sessions : KeepsRounds SessionsHeld := by
  constructor
  · constructor
    case agentCounters => exact fun _ _ h => h.of_eq rfl rfl
    case offered => exact fun _ _ _ h => h.of_eq rfl rfl
    all_goals intros; simpa [SessionsHeld] using by assumption
  all_goals intros; simpa [SessionsHeld] using by assumption

/-- The teardown ends every session and the lease (R149). -/
theorem teardown_sessions (s : State) : s.teardown.agent.sessions = [] ∧ s.teardown.agent.lease = none := by
  have hlease (r : State) : r.cutLease.agent.sessions = r.agent.sessions ∧ r.cutLease.agent.lease = none := by
    unfold State.cutLease
    split
    · exact ⟨rfl, by assumption⟩
    · exact ⟨rfl, rfl⟩
  have hwait (r : State) : r.waitingReset.agent.sessions = r.agent.sessions
      ∧ r.waitingReset.agent.lease = r.agent.lease := by
    unfold State.waitingReset
    split <;> exact ⟨rfl, rfl⟩
  unfold State.teardown
  rw [(hwait _).1, (hwait _).2, (hlease _).1, (hlease _).2]
  exact ⟨rfl, rfl⟩

theorem keepsUplink_sessions : KeepsUplink SessionsHeld := by
  constructor
  case falls =>
    intro s _ h
    unfold State.linkFalls
    split
    · obtain ⟨hsessions, hlease⟩ := teardown_sessions s
      exact h.of_free (hsessions ▸ List.nil_sublist _) hlease
    · exact h
  case answered => exact fun _ h => h.of_eq rfl rfl
  case reset => exact fun _ h => h.of_eq rfl rfl
  case expired =>
    intro s h
    unfold State.expireLease
    split
    · exact h
    · exact h.of_free (List.Sublist.refl _) rfl
  case idled =>
    intro address tag s h
    unfold State.endIdleSession
    split
    · exact h
    · split
      · exact h
      · exact h.remove (Bool.eq_false_iff.mpr (by assumption)) rfl rfl
  all_goals intros; simpa [SessionsHeld] using by assumption

theorem keepsResets_sessions : KeepsResets SessionsHeld where
  powered s h := by
    unfold State.applyPower
    split <;> exact h.of_eq rfl rfl
  asserted s h := by
    unfold State.assertRstn
    split <;> exact h.of_eq rfl rfl
  freed s h := by simpa [SessionsHeld] using h
  settled _ h := h
  after _ _ _ := ⟨Nat.zero_le _, List.nodup_nil, fun l hl => by cases hl⟩

theorem keepsAgent_sessions : KeepsAgent SessionsHeld where
  counters _ _ h := h.of_eq rfl rfl
  taken _ h := h.of_eq rfl rfl
  opened _ s hnew h := h.openSession s.now hnew
  touched q s h := h.touch s.now q
  stored a t l _ h := h.onSession a t l
  waits _ _ h := h.of_eq rfl rfl
  output _ _ h := h.of_eq rfl rfl
  enqueue f s h := keepsRounds_sessions.enqueue .dx f s h

/-- CLAIM gives the lease to a session of the table (R170). -/
theorem answerClaim_sessions {q : Request} {s : State}
    (hs : s.agent.sessions.find? (Session.hasKey q.src q.tag) ≠ none) (h : SessionsHeld s) :
    SessionsHeld (answerClaim q s).state := by
  obtain ⟨x, hx⟩ := Option.ne_none_iff_exists'.mp hs
  have hkey : (q.src, q.tag) ∈ s.agent.sessions.map Session.key := by
    have := List.find?_some hx
    rw [hasKey_iff] at this
    exact List.mem_map.mpr ⟨x, List.mem_of_find?_eq_some hx, by simp [Session.key, this]⟩
  have hgrant (code : Byte) (d : Nat) : SessionsHeld (grantLease code d q s).state :=
    ⟨h.places, h.distinct, fun l hl => by cases hl; exact hkey⟩
  unfold answerClaim
  dsimp only
  split
  · exact h
  · split
    · exact hgrant _ _
    · split
      · exact hgrant _ _
      · exact h

theorem keepsAnswers_sessions : KeepsAnswers SessionsHeld := by
  constructor
  case claim => exact fun q _ hs h => answerClaim_sessions hs h
  case release =>
    intro q s h
    unfold answerRelease
    split
    · exact h.of_free (List.Sublist.refl _) rfl
    · exact h
  case counters =>
    intro q s h
    rcases answerCounters_state q s with ha | ⟨c, hc, ha⟩ <;> rw [ha]
    · exact h
    · obtain ⟨-, -, -, -, -, -, -, -, -, -, -, hsessions, hlease, -⟩ := counterSet_frame _ _ _ _ hc
      exact h.of_eq hsessions hlease
  all_goals intros; simpa [SessionsHeld] using by assumption

/-- Settles O57: a record goes only when it does not hold the lease, and the lease goes to a session of the table. -/
theorem stepKeepsTheHoldersSession : Obligations.StepKeepsTheHoldersSession := fun s t h ht =>
  (sessionLaw_iff t).mpr (step_keeps (P := SessionsHeld) (fun _ _ h => h) keepsRounds_sessions keepsUplink_sessions
    (takeRequest_keeps keepsAgent_sessions keepsAnswers_sessions) keepsResets_sessions ht ((sessionLaw_iff s).mp h))

end Sys2Proof.Machine
end

section
/-! PROOFS. The notice list in number order (R180 to R190): the statement O58. -/

namespace Sys2Proof.Machine

open Sys2Proof.Safety

/-! ### Distances to the next number -/

/-- Assigning a number puts every other record one further behind, short of a full turn (R180). -/
theorem behind_succ {next n : BitVec 16} (h : behind next n ≤ 32768) : behind (next + 1) n = behind next n + 1 := by
  unfold behind at *
  bv_omega

/-- The number just assigned is one behind the next. -/
theorem behind_assigned (next : BitVec 16) : behind (next + 1) next = 1 := by
  unfold behind
  bv_omega

/-- Of two records within half a turn the nearer one covers the farther (R180). -/
theorem covers_of_nearer {next a b : BitVec 16} (hb : 1 ≤ behind next b) (hab : behind next b < behind next a)
    (ha : behind next a ≤ 32768) : covers b a = true := by
  unfold behind covers at *
  rw [decide_eq_true_eq]
  bv_omega

theorem covers_iff_behind (next n : BitVec 16) : covers next n = true ↔ behind next n < 32768 := by
  simp [covers, behind]

/-! ### The order of a list -/

/-- The key of a record (R181). -/
def Notice.key (r : Notice) : NoticeKind × Option Nat := (r.kind, r.station)

theorem hasKey_iff_key (k : NoticeKind) (n : Option Nat) (r : Notice) : r.hasKey k n = true ↔ r.key = (k, n) := by
  simp [Notice.hasKey, Notice.key]

/-- At most 16 records of distinct keys, each nearer to the next number than the one before it, none more than half a
turn behind (R181, R185). -/
structure NoticeList.InOrder (l : NoticeList) : Prop where
  places : l.records.length ≤ 16
  distinct : (l.records.map Notice.key).Nodup
  order : l.records.Pairwise fun a b => behind l.next b.number < behind l.next a.number
  range : ∀ r ∈ l.records, 1 ≤ behind l.next r.number ∧ behind l.next r.number ≤ 32768

theorem noticeLaw_iff (s : State) : NoticeLaw s ↔ s.notices.InOrder := by
  constructor
  · rintro ⟨hplaces, hdistinct, -, horder, hrange⟩
    exact ⟨hplaces, hdistinct, horder, hrange⟩
  · rintro ⟨hplaces, hdistinct, horder, hrange⟩
    refine ⟨hplaces, hdistinct, ?_, horder, hrange⟩
    exact horder.imp_of_mem fun {a b} ha hb hab => covers_of_nearer (hrange b hb).1 hab (hrange a ha).2

/-- Records may leave. -/
theorem NoticeList.InOrder.sublist {l l' : NoticeList} (h : l.InOrder) (hr : l'.records.Sublist l.records)
    (hn : l'.next = l.next) : l'.InOrder where
  places := hr.length_le.trans h.places
  distinct := (hr.map _).nodup h.distinct
  order := hn ▸ h.order.sublist hr
  range r hmem := hn ▸ h.range r (hr.subset hmem)

/-- Records may change in all but their number and their key. -/
theorem NoticeList.InOrder.map {l l' : NoticeList} (h : l.InOrder) {f : Notice → Notice}
    (hf : ∀ r, (f r).number = r.number ∧ (f r).key = r.key) (hr : l'.records = l.records.map f)
    (hn : l'.next = l.next) : l'.InOrder where
  places := by simpa [hr] using h.places
  distinct := by
    rw [hr, List.map_map]
    exact (List.map_congr_left (fun r _ => (hf r).2) : _ = l.records.map Notice.key) ▸ h.distinct
  order := by
    rw [hr, hn, List.pairwise_map]
    exact h.order.imp fun {a b} hab => by rwa [(hf a).1, (hf b).1]
  range := by
    rw [hr, hn]
    intro r hmem
    obtain ⟨x, hx, rfl⟩ := List.mem_map.mp hmem
    rw [(hf x).1]
    exact h.range x hx

/-- A record of a new key joins at the tail under the next number, where no other is half a turn behind (R183, R185). -/
theorem NoticeList.InOrder.push {l l' : NoticeList} {left : List Notice} {n : Notice} (h : l.InOrder)
    (hleft : left.Sublist l.records) (hroom : left.length < 16) (hnear : ∀ r ∈ left, behind l.next r.number < 32768)
    (hnumber : n.number = l.next) (hkey : ∀ r ∈ left, r.key ≠ n.key) (hr : l'.records = left ++ [n])
    (hn : l'.next = l.next + 1) : l'.InOrder := by
  have hsub := h.sublist (l' := { l with records := left }) hleft rfl
  have hfar : ∀ r ∈ left, behind (l.next + 1) r.number = behind l.next r.number + 1 := fun r hmem =>
    behind_succ (hnear r hmem).le
  have hlast : behind (l.next + 1) n.number = 1 := hnumber ▸ behind_assigned l.next
  refine ⟨?_, ?_, ?_, ?_⟩
  · simp only [hr, List.length_append, List.length_singleton]
    omega
  · rw [hr, List.map_append, List.map_singleton]
    refine List.nodup_append'.mpr ⟨hsub.distinct, List.nodup_singleton _, ?_⟩
    rw [List.disjoint_singleton]
    intro hmem
    obtain ⟨r, hr', heq⟩ := List.mem_map.mp hmem
    exact hkey r hr' heq
  · rw [hr, hn, List.pairwise_append]
    refine ⟨hsub.order.imp_of_mem fun {a b} ha hb hab => ?_, List.pairwise_singleton _ _, fun a ha b hb => ?_⟩
    · rw [hfar a ha, hfar b hb]
      exact Nat.succ_lt_succ hab
    · rw [List.mem_singleton.mp hb, hlast, hfar a ha]
      have := (hsub.range a ha).1
      exact Nat.lt_succ_of_le this
  · rw [hr, hn]
    intro r hmem
    rcases List.mem_append.mp hmem with hmem | hmem
    · rw [hfar r hmem]
      have := hnear r hmem
      omega
    · rw [List.mem_singleton.mp hmem, hlast]
      omega

/-! ### Renewals (R185) -/

/-- A renewal of the front record. -/
def NoticeList.renewOnce (r : Notice) (rest : List Notice) (l : NoticeList) : NoticeList :=
  { l with
    records := rest ++ [{ r with number := l.next, sends := 0, retry := none }],
    next := l.next + 1,
    counters := { l.counters with renewed := l.counters.renewed + 1 } }

theorem renewFront_succ (fuel : Nat) (l : NoticeList) : renewFront (fuel + 1) l =
    match l.records with
    | [] => l
    | r :: rest => if covers l.next r.number then l else renewFront fuel (l.renewOnce r rest) := rfl

/-- Behind a front record the others are nearer. -/
theorem NoticeList.InOrder.nearer {l : NoticeList} (h : l.InOrder) {r : Notice} {rest : List Notice}
    (hl : l.records = r :: rest) : ∀ x ∈ rest, behind l.next x.number < behind l.next r.number :=
  (List.pairwise_cons.mp (hl ▸ h.order)).1

theorem NoticeList.InOrder.renewOnce {l : NoticeList} (h : l.InOrder) {r : Notice} {rest : List Notice}
    (hl : l.records = r :: rest) : (l.renewOnce r rest).InOrder := by
  have hplaces := h.places
  have hdistinct := h.distinct
  rw [hl] at hplaces
  simp only [hl, List.map_cons, List.nodup_cons, List.mem_map, not_exists, not_and] at hdistinct
  refine h.push (left := rest) (n := { r with number := l.next, sends := 0, retry := none }) ?_ ?_ (fun x hx => ?_) rfl
    (fun x hx => hdistinct.1 x hx) rfl rfl
  · exact hl ▸ List.sublist_cons_self r rest
  · simpa using hplaces
  · exact (h.nearer hl x hx).trans_le (h.range r (by simp [hl])).2

theorem NoticeList.InOrder.renewFront {l : NoticeList} (h : l.InOrder) (fuel : Nat) :
    (renewFront fuel l).InOrder := by
  induction fuel generalizing l with
  | zero => exact h
  | succ fuel ih =>
    rw [renewFront_succ]
    split
    · exact h
    · rename_i r rest hl
      split
      · exact h
      · exact ih (h.renewOnce hl)

/-- A renewal moves a record and leaves its key. -/
theorem renewFront_keys (fuel : Nat) (l : NoticeList) :
    ((renewFront fuel l).records.map Notice.key).Perm (l.records.map Notice.key) := by
  induction fuel generalizing l with
  | zero => exact .refl _
  | succ fuel ih =>
    rw [renewFront_succ]
    split
    · exact .refl _
    · rename_i r rest hl
      split
      · exact .refl _
      · refine (ih _).trans ?_
        rw [hl, NoticeList.renewOnce, List.map_append]
        exact List.perm_append_singleton (Notice.key r) (rest.map Notice.key)

/-- After as many renewals as there are records, those renewed stand nearer to the next number than their count, so the
front record is within half a turn (R185). `old` are the records not yet met, `new` those renewed. -/
theorem renewFront_front (old new : List Notice) (l : NoticeList) (h : l.InOrder) (hl : l.records = old ++ new)
    (hnew : ∀ x ∈ new, behind l.next x.number ≤ new.length) :
    ∀ x ∈ (renewFront old.length l).records, behind (renewFront old.length l).next x.number < 32768 := by
  induction old generalizing new l with
  | nil =>
    intro x hx
    have hplaces := h.places
    simp only [List.nil_append] at hl
    rw [hl] at hplaces
    have := hnew x (hl ▸ hx)
    exact lt_of_le_of_lt this (by omega)
  | cons r old ih =>
    rw [List.cons_append] at hl
    rw [List.length_cons, renewFront_succ, hl]
    dsimp only
    split
    · rename_i hcover
      rw [covers_iff_behind] at hcover
      intro x hx
      rw [hl] at hx
      rcases List.mem_cons.mp hx with rfl | hx
      · exact hcover
      · exact (h.nearer hl x hx).trans hcover
    · have hrange : ∀ x ∈ new, behind l.next x.number ≤ 32768 := fun x hx =>
        (h.range x (by simp [hl, hx])).2
      refine ih (new ++ [{ r with number := l.next, sends := 0, retry := none }]) _ (h.renewOnce hl)
        (by simp [NoticeList.renewOnce]) fun x hx => ?_
      simp only [NoticeList.renewOnce, List.length_append, List.length_singleton]
      rcases List.mem_append.mp hx with hx | hx
      · rw [behind_succ (hrange x hx)]
        exact Nat.succ_le_succ (hnew x hx)
      · rw [List.mem_singleton.mp hx, behind_assigned]
        omega

theorem NoticeList.InOrder.renewed {l : NoticeList} (h : l.InOrder) :
    l.renewed.InOrder ∧ ∀ x ∈ l.renewed.records, behind l.renewed.next x.number < 32768 :=
  ⟨h.renewFront _, renewFront_front l.records [] l h (by simp) (by simp)⟩

theorem mem_keys_renewed (l : NoticeList) (k : NoticeKind × Option Nat) :
    (∃ x ∈ l.renewed.records, x.key = k) ↔ ∃ x ∈ l.records, x.key = k := by
  simpa [NoticeList.renewed] using (renewFront_keys l.records.length l).mem_iff (a := k)

/-! ### A raise (R183 to R185) -/

theorem NoticeList.InOrder.makeRoom {l : NoticeList} (h : l.InOrder) :
    l.makeRoom.InOrder ∧ l.makeRoom.records.length < 16 ∧ ∀ x ∈ l.makeRoom.records, x ∈ l.records := by
  unfold NoticeList.makeRoom
  split
  · exact ⟨h, by assumption, fun _ hx => hx⟩
  · have hplaces := h.places
    refine ⟨h.sublist (List.tail_sublist _) rfl, ?_, fun x hx => List.mem_of_mem_tail hx⟩
    simp only [List.length_tail]
    omega

theorem NoticeList.InOrder.coalesce {l : NoticeList} (h : l.InOrder) {r : Notice} (hr : r ∈ l.records)
    (round : BitVec 8) (d : Detail) : (l.renewed.coalesce round r d).InOrder := by
  obtain ⟨hrenewed, hnear⟩ := h.renewed
  obtain ⟨r', hr', hkey⟩ := (mem_keys_renewed l r.key).mpr ⟨r, hr, rfl⟩
  have hsub : (l.renewed.records.filter fun x => !x.hasKey r.kind r.station).Sublist l.renewed.records :=
    List.filter_sublist
  refine hrenewed.push hsub ?_ (fun x hx => hnear x (hsub.subset hx)) rfl (fun x hx => ?_) rfl rfl
  · have hless : (l.renewed.records.filter fun x => !x.hasKey r.kind r.station).length < l.renewed.records.length :=
      List.length_filter_lt_length_iff_exists.mpr
        ⟨r', hr', by rw [(hasKey_iff_key _ _ _).mpr hkey]; simp⟩
    exact hless.trans_le hrenewed.places
  · intro heq
    have hdrop := (List.mem_filter.mp hx).2
    rw [(hasKey_iff_key _ _ _).mpr heq] at hdrop
    cases hdrop

theorem NoticeList.InOrder.append {l : NoticeList} (h : l.InOrder) {k : NoticeKind} {n : Option Nat}
    (hnew : ∀ x ∈ l.records, x.key ≠ (k, n)) (round : BitVec 8) (d : Detail) :
    (l.makeRoom.renewed.append round k n d).InOrder := by
  obtain ⟨hroom, hless, hmem⟩ := h.makeRoom
  obtain ⟨hrenewed, hnear⟩ := hroom.renewed
  have hlen : l.makeRoom.renewed.records.length = l.makeRoom.records.length := by
    simpa [NoticeList.renewed] using (renewFront_keys l.makeRoom.records.length l.makeRoom).length_eq
  refine hrenewed.push (List.Sublist.refl _) (hlen ▸ hless) hnear rfl (fun x hx heq => ?_) rfl rfl
  obtain ⟨y, hy, hkey⟩ := (mem_keys_renewed l.makeRoom x.key).mp ⟨x, hx, rfl⟩
  exact hnew y (hmem y hy) (hkey.trans heq)

theorem NoticeList.InOrder.raise {l : NoticeList} (h : l.InOrder) (round : BitVec 8) (k : NoticeKind)
    (n : Option Nat) (d : Detail) : (l.raise round k n d).InOrder := by
  have hcounted : { l with counters := { l.counters with raised := l.counters.raised + 1 } : NoticeList }.InOrder :=
    h.sublist (List.Sublist.refl _) rfl
  unfold NoticeList.raise
  dsimp only
  split
  · rename_i r hr
    exact hcounted.coalesce (List.mem_of_find?_eq_some hr) round d
  · rename_i hnone
    refine hcounted.append (fun x hx heq => ?_) round d
    exact List.find?_eq_none.mp hnone x hx ((hasKey_iff_key k n x).mpr heq)

/-! ### The other changes of the list -/

theorem NoticeList.InOrder.recordSend {l : NoticeList} (h : l.InOrder) (n : BitVec 16) (t : Nat) :
    (l.recordSend n t).InOrder := by
  unfold NoticeList.recordSend
  split
  · refine h.map (f := fun r => if r.number == n then r.recordSend t else r) (fun r => ?_) rfl rfl
    split <;> exact ⟨rfl, rfl⟩
  · exact h

theorem NoticeList.InOrder.acknowledge {l : NoticeList} (h : l.InOrder) (n : BitVec 16) : (l.acknowledge n).InOrder :=
  h.sublist List.filter_sublist rfl

/-! ### The events and the requests -/

/-- The law of the notice list, of a state. -/
def NoticesOrdered (s : State) : Prop := s.notices.InOrder

theorem noticesOrdered_raise {s : State} (h : NoticesOrdered s) (k : NoticeKind) (n : Option Nat) (d : Detail) :
    NoticesOrdered (s.raise k n d) := h.raise _ _ _ _

theorem keepsRounds_notices : KeepsRounds NoticesOrdered := by
  constructor
  · constructor
    case raised => exact fun k n d s h => noticesOrdered_raise h k n d
    case swapped =>
      intro s h
      unfold State.swapPoint
      split
      · exact noticesOrdered_raise (s := s.onStore Store.swap) h _ _ _
      · exact h
    all_goals intros; simpa [NoticesOrdered] using by assumption
  · exact fun _ _ h => h
  · exact fun _ _ h => h

theorem noticesOrdered_cutLease {s : State} (h : NoticesOrdered s) : NoticesOrdered s.cutLease := by
  unfold State.cutLease
  split
  · exact h
  · exact noticesOrdered_raise (s := s.endLease) h _ _ _

theorem keepsUplink_notices : KeepsUplink NoticesOrdered := by
  constructor
  case falls =>
    intro s _ h
    unfold State.linkFalls
    split
    · have hcut : NoticesOrdered (s.cutUplink.onQueues Queues.teardown).cutAgent.cutLease :=
        noticesOrdered_cutLease (s := (s.cutUplink.onQueues Queues.teardown).cutAgent) h
      simpa [NoticesOrdered, State.teardown] using hcut
    · exact h
  case sent => exact fun n t s h => h.recordSend n t
  case retried =>
    intro n s h
    unfold State.retryNotice
    split
    · exact h
    · refine h.map (f := fun r => if r.number == n then { r with retry := none } else r) (fun r => ?_) rfl rfl
      split <;> exact ⟨rfl, rfl⟩
  case expired =>
    intro s h
    unfold State.expireLease
    split
    · exact h
    · exact noticesOrdered_raise (s := (s.reach _).endLease) h _ _ _
  all_goals intros; simpa [NoticesOrdered] using by assumption

theorem restarted_inOrder (cause : Byte) : (NoticeList.restarted cause).InOrder :=
  have hbehind : behind 1 0 = 1 := by decide
  ⟨Nat.le_of_ble_eq_true rfl, List.nodup_singleton _, List.pairwise_singleton _ _, fun r hr => by
    rw [List.mem_singleton.mp hr]
    exact ⟨hbehind.ge, hbehind.le.trans (by decide)⟩⟩

theorem keepsResets_notices : KeepsResets NoticesOrdered where
  powered s h := by simpa [NoticesOrdered] using h
  asserted s h := by simpa [NoticesOrdered] using h
  freed s h := by simpa [NoticesOrdered] using h
  settled _ h := h
  after k _ _ := restarted_inOrder k.code

theorem keepsAgent_notices : KeepsAgent NoticesOrdered :=
  .of_onAgent (fun _ _ h => h) fun f s h => keepsRounds_notices.enqueue .dx f s h

theorem keepsAnswers_notices : KeepsAnswers NoticesOrdered := by
  constructor
  case commitRound =>
    intro q s h
    unfold answerCommitRound
    (repeat' split) <;> try exact h
    exact noticesOrdered_raise (s := s.onStore Store.swap) h _ _ _
  case stopTrunk => exact fun _ s h => keepsRounds_notices.stopTrunk s (fun _ => h) h
  case enrolStation =>
    intro q s h
    unfold answerEnrolStation
    dsimp only
    (repeat' split) <;> try exact h
    exact noticesOrdered_raise (s := s.onStations _) h _ _ _
  case withdrawStation =>
    intro q s h
    unfold answerWithdrawStation
    dsimp only
    (repeat' split) <;> try exact h
    exact noticesOrdered_raise (s := s.onStations _) h _ _ _
  case mute =>
    refine fun q s h => setStation_state h fun r _ => ?_
    unfold actMute
    dsimp only [okWith]
    split
    · exact h
    · exact noticesOrdered_raise (s := s.onStation r.station _) h _ _ _
  case restore =>
    exact fun q s h => setStation_state h fun r _ => noticesOrdered_raise (s := s.onStation r.station _) h _ _ _
  case ackNotices => exact fun q s h => h.acknowledge _
  case counters =>
    intro q s h
    obtain ⟨-, -, hn | hn, -⟩ := answerCounters_blocks q s
    · exact h.sublist (hn ▸ List.Sublist.refl _) (hn ▸ rfl)
    · exact h.sublist (hn ▸ List.Sublist.refl _) (hn ▸ rfl)
  all_goals intros; simpa [NoticesOrdered] using by assumption

/-- Settles O58: a number is assigned only where no record is left half a turn behind. -/
theorem stepKeepsTheNoticeOrder : Obligations.StepKeepsTheNoticeOrder := fun s t h ht =>
  (noticeLaw_iff t).mpr (step_keeps (P := NoticesOrdered) (fun _ _ h => h) keepsRounds_notices keepsUplink_notices
    (takeRequest_keeps keepsAgent_notices keepsAnswers_notices) keepsResets_notices ht ((noticeLaw_iff s).mp h))

end Sys2Proof.Machine
end

section
/-! PROOFS. The tables and the phase (R20, R24, R25): the statement O55. -/

namespace Sys2Proof.Machine

open Sys2Proof.Safety

/-! ### The law of the tables -/

/-- The banks and the phase. -/
structure TablesLaw (s : State) : Prop where
  active : s.store.active.entries.length ≤ 64
  pending : s.store.pending.entries.length ≤ 64
  armed : s.store.armed = true → s.store.pending.entries ≠ []
  working : s.engine.trunk ≠ .stopped → s.store.active.entries ≠ []
  copy : s.agent.lease = none → s.store.armed = true ∨ s.store.pending = s.store.active
  phase : s.engine.phase ≠ none → s.engine.trunk = .running ∨ s.engine.trunk = .stopping

theorem tablesLaw_iff (s : State) : TablesLaw s ↔ StoreLaw s ∧ PhaseLaw s :=
  ⟨fun ⟨h1, h2, h3, h4, h5, h6⟩ => ⟨⟨h1, h2, h3, h4, h5⟩, h6⟩, fun ⟨⟨h1, h2, h3, h4, h5⟩, h6⟩ => ⟨h1, h2, h3, h4, h5, h6⟩⟩

/-- A change of other blocks; a lease that was held is not looked at. -/
theorem TablesLaw.of_eq {s t : State} (h : TablesLaw s) (hs : t.store = s.store) (ht : t.engine.trunk = s.engine.trunk)
    (hp : t.engine.phase ≠ none → s.engine.phase ≠ none ∨ s.engine.trunk = .running)
    (hl : t.agent.lease = none → s.agent.lease = none) : TablesLaw t where
  active := hs ▸ h.active
  pending := hs ▸ h.pending
  armed := hs ▸ h.armed
  working := by rw [hs, ht]; exact h.working
  copy := by rw [hs]; exact fun hnone => h.copy (hl hnone)
  phase hne := by
    rw [ht]
    exact (hp hne).elim h.phase .inl

theorem TablesLaw.other {s t : State} (h : TablesLaw s) (hs : t.store = s.store) (he : t.engine = s.engine)
    (hl : t.agent.lease = none → s.agent.lease = none) : TablesLaw t :=
  h.of_eq hs (he ▸ rfl) (fun hp => .inl (he ▸ hp)) hl

/-- The trunk enters a state in which the tables it needs are there and no phase is left over. -/
theorem TablesLaw.enter {s t : State} (h : TablesLaw s) (hs : t.store = s.store) (hl : t.agent.lease = s.agent.lease)
    (hw : t.engine.trunk ≠ .stopped → s.store.active.entries ≠ [])
    (hp : t.engine.phase ≠ none → t.engine.trunk = .running ∨ t.engine.trunk = .stopping) : TablesLaw t where
  active := hs ▸ h.active
  pending := hs ▸ h.pending
  armed := hs ▸ h.armed
  working := hs ▸ hw
  copy := by rw [hs, hl]; exact h.copy
  phase := hp

/-- A swap makes PENDING the ACTIVE table (R16). -/
theorem TablesLaw.swap {s : State} (h : TablesLaw s) (hne : s.store.pending.entries ≠ []) : TablesLaw s.swap where
  active := h.pending
  pending := h.pending
  armed ha := by cases ha
  working _ := hne
  copy _ := .inr rfl
  phase := h.phase

theorem TablesLaw.swapPoint {s : State} (h : TablesLaw s) : TablesLaw s.swapPoint := by
  unfold State.swapPoint
  split
  · exact h.swap (h.armed (by assumption))
  · exact h

/-- At the end of a lease an unarmed PENDING is ACTIVE again (R20). -/
theorem TablesLaw.endLease {s : State} (h : TablesLaw s) : TablesLaw s.endLease := by
  have hs := endLease_store s
  cases harmed : s.store.armed with
  | true =>
    rw [harmed, if_pos rfl] at hs
    exact ⟨hs ▸ h.active, hs ▸ h.pending, hs ▸ h.armed, hs ▸ h.working, fun _ => .inl (hs ▸ harmed), h.phase⟩
  | false =>
    rw [harmed, if_neg Bool.false_ne_true] at hs
    exact ⟨hs ▸ h.active, hs ▸ h.active, fun ha => by rw [hs] at ha; exact absurd (harmed ▸ ha) Bool.false_ne_true,
      hs ▸ h.working, fun _ => .inr (hs ▸ rfl), h.phase⟩

/-! ### The events -/

theorem keepsRounds_tables : KeepsRounds TablesLaw where
  reach _ _ h := h.other rfl rfl id
  pins _ _ h := h.other rfl rfl id
  line _ _ _ h := h.other rfl rfl id
  counters _ _ h := h.other rfl rfl id
  engine _ _ ht hp h := h.of_eq rfl ht hp id
  raised _ _ _ _ h := h.other rfl rfl id
  station _ _ _ _ h := h.other rfl rfl id
  admission _ _ _ h := h.other rfl rfl id
  agentCounters _ _ h := h.other rfl rfl id
  offered _ _ _ h := h.other rfl rfl id
  dropped _ _ _ h := h.other rfl rfl id
  joined _ _ _ _ h := h.other rfl rfl id
  taken _ s _ h := h.other (by simp) (by simp) (by simp)
  released _ h := h.other rfl rfl id
  aborted _ h := h.other rfl rfl id
  swapped _ h := h.swapPoint
  stopped _ h := h.enter rfl rfl (fun hne => absurd rfl hne) (fun hp => absurd rfl hp)
  blocked _ hp h := h.enter rfl rfl
    (fun _ => h.working fun hstopped => by rcases h.phase hp with hr | hr <;> rw [hstopped] at hr <;> cases hr)
    (fun hp => absurd rfl hp)
  running _ hs h := h.enter rfl rfl
    (fun _ => h.working fun hstopped => by rcases hs with hr | hr <;> rw [hstopped] at hr <;> cases hr)
    (fun _ => .inl rfl)
  marker _ _ h := h.other rfl rfl id

/-- In a reset the engine holds its reset values (R204; log 7). -/
theorem TablesLaw.beginReset {s : State} (h : TablesLaw s) (k : ResetKind) : TablesLaw (s.beginReset k) :=
  h.enter rfl rfl (fun hne => absurd rfl hne) (fun hp => absurd rfl hp)

theorem TablesLaw.linkFalls {s : State} (h : TablesLaw s) : TablesLaw s.linkFalls := by
  unfold State.linkFalls
  split
  · have hcut : TablesLaw (s.cutUplink.onQueues Queues.teardown).cutAgent :=
      h.other (t := (s.cutUplink.onQueues Queues.teardown).cutAgent) rfl rfl id
    have hlease : TablesLaw (s.cutUplink.onQueues Queues.teardown).cutAgent.cutLease := by
      unfold State.cutLease
      split
      · exact hcut
      · exact hcut.endLease.other rfl rfl id
    unfold State.teardown State.waitingReset
    split
    · exact hlease.beginReset _
    · exact hlease
  · exact h

theorem keepsUplink_tables : KeepsUplink TablesLaw where
  uplink _ _ _ h := h.other rfl rfl id
  rises s h := h.other (by simp) (by simp) (by simp)
  falls s _ h := h.linkFalls
  takenUp _ h := h.other rfl rfl id
  releasedUp _ h := h.other rfl rfl id
  answered _ h := h.other rfl rfl id
  reset _ h := h.beginReset _
  sent _ _ _ h := h.other rfl rfl id
  retried n s h := h.other (by simp) (by simp) (by simp)
  expired s h := by
    unfold State.expireLease
    split
    · exact h
    · exact (h.other (t := s.reach _) rfl rfl id).endLease.other rfl rfl id
  idled a t s h := h.other (by simp) (by simp) (by
    unfold State.endIdleSession
    (repeat' split) <;> exact id)
  ticked _ h := h.other rfl rfl id
  flashed s h := h.other (by simp) (by simp) (by simp)

theorem keepsResets_tables : KeepsResets TablesLaw where
  powered s h := by
    unfold State.applyPower
    split
    · exact h.beginReset _
    · exact h.other rfl rfl id
  asserted s h := by
    unfold State.assertRstn
    split
    · exact h.beginReset _
    · exact h.other rfl rfl id
  freed s h := h.other (by simp) (by simp) (by simp)
  settled _ h := h.other rfl rfl id
  after k s _ :=
    { active := Nat.zero_le _
      pending := Nat.zero_le _
      armed := fun ha => by cases ha
      working := fun hne => absurd rfl hne
      copy := fun _ => .inr rfl
      phase := fun hp => absurd rfl hp }

theorem touch_lease {now : Nat} {q : Request} {a : Agent} (h : (a.touch now q).lease = none) : a.lease = none := by
  cases hl : a.lease with
  | none => rfl
  | some l =>
    exfalso
    unfold Agent.touch Agent.renewLease at h
    split at h <;> simp [hl] at h

theorem keepsAgent_tables : KeepsAgent TablesLaw where
  counters _ _ h := h.other rfl rfl id
  taken _ h := h.other rfl rfl id
  opened q s _ h := h.other rfl rfl (by simp)
  touched q s h := h.other rfl rfl touch_lease
  stored a t l s h := h.other rfl rfl (by simp)
  waits _ _ h := h.other rfl rfl id
  output _ _ h := h.other rfl rfl id
  enqueue f s h := keepsRounds_tables.enqueue .dx f s h

/-! ### The requests on the tables and the trunk -/

/-- A write to an unarmed PENDING by the lease holder (R8, R9). -/
theorem TablesLaw.write {s : State} (h : TablesLaw s) {b : Bank} (harmed : s.store.armed = false)
    (hlease : s.agent.lease ≠ none) (hb : b.entries.length ≤ 64) :
    TablesLaw (s.onStore fun st => { st with pending := b }) where
  active := h.active
  pending := hb
  armed ha := absurd (harmed ▸ ha) Bool.false_ne_true
  working := h.working
  copy hnone := absurd hnone hlease
  phase := h.phase

theorem answerWriteRound_tables (q : Request) {s : State} (hlease : s.agent.lease ≠ none) (h : TablesLaw s) :
    TablesLaw (answerWriteRound q s).state := by
  unfold answerWriteRound
  dsimp only
  split
  · exact h
  · rename_i harmed
    split
    · exact h
    · split
      · exact h
      · split
        · exact h
        · rename_i hlength
          split
          · exact h
          · refine h.write (Bool.eq_false_iff.mpr harmed) hlease ?_
            simp only [Bool.or_eq_true, decide_eq_true_eq, not_or, not_lt] at hlength
            exact (List.length_take_le _ _).trans hlength.1

theorem answerSetRoundParams_tables (q : Request) {s : State} (hlease : s.agent.lease ≠ none) (h : TablesLaw s) :
    TablesLaw (answerSetRoundParams q s).state := by
  unfold answerSetRoundParams
  split
  · exact h
  · rename_i harmed
    split
    · exact h
    · exact h.write (Bool.eq_false_iff.mpr harmed) hlease h.pending

theorem answerCommitRound_tables (q : Request) {s : State} (h : TablesLaw s) :
    TablesLaw (answerCommitRound q s).state := by
  unfold answerCommitRound
  split
  · exact h
  · split
    · exact h
    · rename_i hfull
      have hne : s.store.pending.entries ≠ [] := by simpa using hfull
      split
      · exact h
      · split
        · exact h.swap hne
        · exact ⟨h.active, h.pending, fun _ => hne, h.working, fun _ => .inl rfl, h.phase⟩

theorem answerDisarmRound_tables (q : Request) {s : State} (hlease : s.agent.lease ≠ none) (h : TablesLaw s) :
    TablesLaw (answerDisarmRound q s).state := by
  unfold answerDisarmRound
  split
  · exact ⟨h.active, h.pending, (fun ha => by cases ha), h.working, fun hnone => absurd hnone hlease, h.phase⟩
  · exact h

theorem answerStartTrunk_tables (q : Request) {s : State} (h : TablesLaw s) : TablesLaw (answerStartTrunk q s).state := by
  unfold answerStartTrunk
  split
  · exact h
  · rename_i hstopped
    split
    · exact h
    · rename_i hfull
      refine h.enter rfl rfl (fun _ => by simpa using hfull) fun hp => ?_
      have htrunk : s.engine.trunk = .stopped := by simpa using hstopped
      rcases h.phase hp with hr | hr <;> rw [htrunk] at hr <;> cases hr

theorem lease_of_holds {a : Agent} {address : Addr} {tag : BitVec 16} (h : a.holds address tag = true) :
    a.lease ≠ none := by
  obtain ⟨l, hl, -⟩ := (holds_iff a address tag).mp h
  simp [hl]

theorem keepsAnswers_tables : KeepsAnswers TablesLaw := by
  constructor
  case claim =>
    intro q s _ h
    refine h.other (by simp) (by simp) fun hnone => ?_
    unfold answerClaim at hnone
    dsimp only at hnone
    split at hnone
    · exact hnone
    · split at hnone
      · assumption
      · split at hnone
        · cases hnone
        · exact hnone
  case release =>
    intro q s h
    unfold answerRelease
    split
    · exact h.endLease
    · exact h
  case writeRound => exact fun q s hold h => answerWriteRound_tables q (lease_of_holds hold) h
  case setRoundParams => exact fun q s hold h => answerSetRoundParams_tables q (lease_of_holds hold) h
  case commitRound => exact fun q s h => answerCommitRound_tables q h
  case disarmRound => exact fun q s hold h => answerDisarmRound_tables q (lease_of_holds hold) h
  case startTrunk => exact fun q s h => answerStartTrunk_tables q h
  case stopTrunk =>
    refine fun _ s h => keepsRounds_tables.stopTrunk s (fun hrunning => ?_) h
    exact h.enter rfl rfl (fun _ => h.working (by simp [hrunning])) fun _ => .inr rfl
  case counters =>
    intro q s h
    refine h.other (by simp) (by simp) fun hnone => ?_
    rcases answerCounters_state q s with ha | ⟨c, hc, ha⟩ <;> rw [ha] at hnone
    · exact hnone
    · obtain ⟨-, -, -, -, -, -, -, -, -, -, -, -, hlease, -⟩ := counterSet_frame _ _ _ _ hc
      exact hlease ▸ hnone
  all_goals exact fun q s h => h.other (by simp) (by simp) (by simp)

/-- Settles O55: a table becomes ACTIVE only if it has entries, and a lease ends with PENDING a copy or armed. -/
theorem stepKeepsTheTables : Obligations.StepKeepsTheTables := fun s t h ht =>
  (tablesLaw_iff t).mp (step_keeps (fun _ _ h => h.other rfl rfl id) keepsRounds_tables keepsUplink_tables
    (takeRequest_keeps keepsAgent_tables keepsAnswers_tables) keepsResets_tables ht ((tablesLaw_iff s).mpr h))

end Sys2Proof.Machine
end

section
/-! PROOFS. What a ROUND_START and a CALL carry when a step begins them (R31, R33, R34, R36): the statements O59 and
O60. -/

namespace Sys2Proof.Machine

open Sys2Proof.Safety

/-! ### Steps that begin no marker -/

/-- A marker on air was on air before, as `old`. -/
def NoNewMarker (old : Option TrunkTx) (s : State) : Prop :=
  ∀ m ends, s.line.tx = some ⟨.marker m, ends⟩ → s.line.tx = old

section
variable {old : Option TrunkTx}

theorem noNewMarker_of_tx {s t : State} (h : NoNewMarker old s) (ht : t.line.tx = s.line.tx ∨ t.line.tx = none) :
    NoNewMarker old t := by
  intro m ends hm
  rcases ht with heq | hnone
  · exact heq ▸ h m ends (heq ▸ hm)
  · rw [hnone] at hm
    cases hm

theorem noNewMarker_of_line {s t : State} (h : NoNewMarker old s) (ht : t.line = s.line) : NoNewMarker old t :=
  noNewMarker_of_tx h (.inl (ht ▸ rfl))

/-- What the take of a frame puts on air is no marker (R49, R93). -/
theorem noNewMarker_takeFrame {s : State} (q : QueueName) (h : NoNewMarker old s) : NoNewMarker old (s.takeFrame q) := by
  unfold State.takeFrame
  split
  · intro m ends hm
    cases hm
  · exact h

variable (old)

theorem keepsTrunk_markers : KeepsTrunk (NoNewMarker old) := by
  constructor
  case line => exact fun _ _ hf h => noNewMarker_of_tx h hf
  case taken => exact fun q s _ h => noNewMarker_takeFrame q h
  all_goals intros; exact noNewMarker_of_line (by assumption) (by simp)

theorem noNewMarker_beginReset (k : ResetKind) (s : State) : NoNewMarker old (s.beginReset k) :=
  fun _ _ hm => by cases hm

theorem noNewMarker_linkFalls {s : State} (h : NoNewMarker old s) : NoNewMarker old s.linkFalls := by
  unfold State.linkFalls
  split
  · unfold State.teardown State.waitingReset
    split
    · exact noNewMarker_beginReset old _ _
    · exact noNewMarker_of_line h (by simp)
  · exact h

theorem keepsUplink_markers : KeepsUplink (NoNewMarker old) := by
  constructor
  case falls => exact fun _ _ h => noNewMarker_linkFalls old h
  case reset => exact fun s _ => noNewMarker_beginReset old _ s
  all_goals intros; exact noNewMarker_of_line (by assumption) (by simp)

theorem keepsResets_markers : KeepsResets (NoNewMarker old) where
  powered s h := by
    unfold State.applyPower
    split
    · exact noNewMarker_beginReset old _ s
    · exact h
  asserted s h := by
    unfold State.assertRstn
    split
    · exact noNewMarker_beginReset old _ s
    · exact h
  freed s h := noNewMarker_of_line h (by simp)
  settled _ h := h
  after _ _ _ := fun _ _ hm => by cases hm

theorem keepsAgent_markers : KeepsAgent (NoNewMarker old) :=
  .of_onAgent (fun _ _ h => h) fun f s h => (keepsTrunk_markers old).enqueue .dx f s h

theorem keepsAnswers_markers : KeepsAnswers (NoNewMarker old) := by
  constructor
  case stopTrunk => exact fun _ s h => (keepsTrunk_markers old).stopTrunk s (fun _ => h) h
  all_goals intros; exact noNewMarker_of_line (by assumption) (by simp)

end

/-! ### A marker as a step leaves it -/

/-- A marker on air was on air before, as `old`, or it is a ROUND_START or a CALL as the laws of the part say; `before`
are the stations that the round had reached before. -/
def MarkerLawful (old : Option TrunkTx) (before : List Nat) (t : State) : Prop :=
  ∀ m ends, t.line.tx = some ⟨.marker m, ends⟩ → t.line.tx = old
    ∨ (m.type = 0x1C ∧ m.a = t.engine.round ∧ m.b = t.store.generation)
    ∨ (m.type = 0x2C ∧ ∃ i e r, t.engine.index = some i ∧ t.store.active.entries[i]? = some e
        ∧ t.station? e.station = some r ∧ m.a = byteOf e.station ∧ m.b = byteOf e.credit ∧ t.engine.credit = e.credit
        ∧ r.state ≠ .muted
        ∧ (r.state = .lapsed → t.engine.round.toNat % t.store.active.header.probePeriod = 0 ∧ e.station ∉ before))

section
variable {old : Option TrunkTx} {before : List Nat}

theorem NoNewMarker.lawful {s : State} (h : NoNewMarker old s) : MarkerLawful old before s :=
  fun m ends hm => .inl (h m ends hm)

/-- A round boundary begins the ROUND_START of its round (R31). -/
theorem roundBoundary_lawful (s : State) : MarkerLawful old before s.roundBoundary := by
  intro m ends hm
  simp only [State.roundBoundary, State.sendMarker, State.startTx, onLine_line, Option.some.injEq, TrunkTx.mk.injEq,
    TrunkContent.marker.injEq] at hm
  obtain ⟨rfl, -⟩ := hm
  exact .inr (.inl ⟨rfl, rfl, rfl⟩)

theorem endRound_lawful {s : State} (h : NoNewMarker old s) : MarkerLawful old before s.endRound := by
  unfold State.endRound
  dsimp only
  split
  · exact NoNewMarker.lawful ((keepsTrunk_markers old).considerFill _ h)
  · exact roundBoundary_lawful _

/-- A station that is called is UNSEEN or PRESENT, or LAPSED at its first entry of a probe round (R33, R34). -/
theorem entryCalled_record {first : Bool} {n : Nat} {s : State} (h : entryCalled first n s = true) :
    ∃ r, s.station? n = some r ∧ r.state ≠ .muted
      ∧ (r.state = .lapsed → probeRound s = true ∧ first = true) := by
  unfold entryCalled at h
  cases hr : s.station? n with
  | none => simp [hr] at h
  | some r => cases hstate : r.state <;> simp_all

/-- The call of an entry begins its CALL (R36). -/
theorem startCall_lawful {s : State} {e : RoundEntry} {i : Nat} {first : Bool} (hi : s.engine.index = some i)
    (he : s.store.active.entries[i]? = some e) (hcall : entryCalled first e.station s = true)
    (hfirst : first = true → e.station ∉ before) : MarkerLawful old before (s.startCall e) := by
  intro m ends hm
  simp only [State.startCall, State.sendMarker, State.startTx, onLine_line, Option.some.injEq, TrunkTx.mk.injEq,
    TrunkContent.marker.injEq] at hm
  obtain ⟨rfl, -⟩ := hm
  obtain ⟨r, hr, hmuted, hlapsed⟩ := entryCalled_record hcall
  refine .inr (.inr ⟨rfl, i, e, r, hi, he, hr, rfl, rfl, rfl, hmuted, fun hstate => ?_⟩)
  obtain ⟨hprobe, hf⟩ := hlapsed hstate
  exact ⟨eq_of_beq hprobe, hfirst hf⟩

theorem mem_addFirst_of_mem {n m : Nat} {l : List Nat} (h : n ∈ l) : n ∈ addFirst m l := by
  unfold addFirst
  split
  · exact h
  · exact List.mem_append_left _ h

/-- The entries of ACTIVE from index `i` on, started in turn. -/
theorem startEntries_lawful (l : List RoundEntry) (i : Nat) (s : State) (hl : l = s.store.active.entries.drop i)
    (hbefore : ∀ n ∈ before, n ∈ s.engine.firstEntry) (h : NoNewMarker old s) :
    MarkerLawful old before (startEntries l i s) := by
  induction l generalizing i s with
  | nil => exact endRound_lawful h
  | cons e rest ih =>
    have hentry : s.store.active.entries[i]? = some e := by
      have := congrArg (·[0]?) hl
      simpa using this.symm
    have hrest : rest = s.store.active.entries.drop (i + 1) := by
      have := congrArg List.tail hl
      simpa using this
    unfold startEntries
    dsimp only
    split
    · split
      · rename_i q hq
        exact NoNewMarker.lawful ((keepsTrunk_markers old).takeHeadFrame q _ (drainQueue_ne_uq hq)
          (noNewMarker_of_line h rfl))
      · exact ih _ _ hrest hbefore h
    · split
      · rename_i hcall
        refine startCall_lawful (i := i) rfl hentry hcall fun hf hmem => ?_
        have := hbefore _ hmem
        simp [this] at hf
      · exact ih _ _ (by simpa using hrest) (fun n hn => by simpa using mem_addFirst_of_mem (hbefore n hn))
          (noNewMarker_of_line h rfl)

theorem startEntry_lawful {s : State} (hbefore : s.engine.firstEntry = before) (h : NoNewMarker old s) :
    MarkerLawful old before s.startEntry :=
  startEntries_lawful _ _ s rfl (fun _ hn => hbefore ▸ hn) h

/-- The events that may begin a marker begin one as the laws of the part say. -/
theorem lineEffect_lawful {c : Instr} (hc : mayBeginMarker c = true) {s : State} (hbefore : s.engine.firstEntry = before)
    (h : NoNewMarker old s) : MarkerLawful old before (lineEffect c s) := by
  cases c with
  | turnaroundEnd =>
    change MarkerLawful old before s.endTurnaround
    unfold State.endTurnaround
    split
    · exact startEntry_lawful hbefore h
    · exact h.lawful
  | interFrameGapEnd =>
    change MarkerLawful old before s.endGap
    unfold State.endGap
    split
    · simp only [State.afterGap]
      split
      · split
        · rename_i q hq
          obtain ⟨e, -, he⟩ := Option.bind_eq_some_iff.mp hq
          exact NoNewMarker.lawful ((keepsTrunk_markers old).takeHeadFrame q _ (drainQueue_ne_uq he)
            (noNewMarker_of_line h rfl))
        · exact startEntry_lawful hbefore h
      · exact NoNewMarker.lawful ((keepsTrunk_markers old).considerFill _ h)
      · exact NoNewMarker.lawful h
    · exact h.lawful
  | quietInterval =>
    change MarkerLawful old before s.seeQuiet
    unfold State.seeQuiet
    split
    · simp only [State.quietSeen]
      split
      · exact roundBoundary_lawful _
      · exact roundBoundary_lawful _
      · split
        · split
          · exact roundBoundary_lawful _
          · exact startEntry_lawful hbefore h
        · exact NoNewMarker.lawful ((keepsTrunk_markers old).considerFill _ (noNewMarker_of_line h rfl))
        · exact NoNewMarker.lawful h
    · exact h.lawful
  | floorExpiry =>
    change MarkerLawful old before s.expireFloor
    unfold State.expireFloor
    split
    · split
      · simp only [State.floorPassed]
        split
        · exact NoNewMarker.lawful h
        · exact roundBoundary_lawful _
      · exact h.lawful
    · exact h.lawful
  | _ => cases hc

/-- The arbiter changes nothing that the laws of the markers speak of (R144). -/
theorem MarkerLawful.arbitrate {s : State} (h : MarkerLawful old before s) : MarkerLawful old before s.arbitrate := by
  simpa [MarkerLawful, State.station?] using h

end

/-- A marker that a step leaves on air was on air before, or is as the laws of the part say. -/
theorem step_lawful {s t : State} (ht : step s = .next t) : MarkerLawful s.line.tx s.engine.firstEntry t := by
  have h : NoNewMarker s.line.tx s := fun _ _ _ => rfl
  have hk := keepsTrunk_markers s.line.tx
  have hu := keepsUplink_markers s.line.tx
  unfold step at ht
  split at ht
  · cases ht
    exact h.lawful
  · rename_i c rest _
    generalize hs' : { s with pending := rest } = s' at ht
    have h' : NoNewMarker s.line.tx s' := hs' ▸ h
    cases hc : isResetCommand c with
    | true => exact NoNewMarker.lawful (execReset_keeps hk hu (keepsResets_markers _) hc ht h')
    | false =>
      rw [exec_event hc, Host.Outcome.next.injEq] at ht
      subst ht
      have hheard := hk.heard c s' h'
      unfold State.event
      split
      · exact hheard.lawful
      · rename_i hrun
        refine MarkerLawful.arbitrate ?_
        cases hrow : rowOf c with
        | some row =>
          simp only [effect, hrow]
          exact NoNewMarker.lawful (takeRequest_keeps (keepsAgent_markers _) (keepsAnswers_markers _) c row hrow _ hheard)
        | none =>
          simp only [effect, hrow]
          cases hm : mayBeginMarker c with
          | false => exact NoNewMarker.lawful (lineEffect_keeps hk hu hm _ hrun hheard)
          | true => exact lineEffect_lawful hm (by rw [← hs']; rfl) hheard

/-- Settles O59: the only ROUND_START a step begins is that of its round boundary. -/
theorem roundStartCarriesTheGeneration : Obligations.RoundStartCarriesTheGeneration := by
  intro s t m ends ht hm hnew htype
  rcases step_lawful ht m ends hm with hold | ⟨-, ha, hb⟩ | ⟨hcall, -⟩
  · exact absurd hold hnew
  · exact ⟨ha, hb⟩
  · exact absurd (htype.symm.trans hcall) (by decide)

/-- Settles O60: the only CALL a step begins is that of the entry it calls. -/
theorem callNamesACallableStation : Obligations.CallNamesACallableStation := by
  intro s t m ends ht hm hnew htype
  rcases step_lawful ht m ends hm with hold | ⟨hround, -⟩ | ⟨-, hcall⟩
  · exact absurd hold hnew
  · exact absurd (htype.symm.trans hround) (by decide)
  · exact hcall

end Sys2Proof.Machine
end

section
/-! PROOFS. The read requests of the engine, the stations, the rules, the queues and the notices (R29, R80, R113, R134,
R192, R211): the statements O10, O11 and O12. -/

namespace Sys2Proof.Machine

open Sys2Proof.Safety

/-! ### A read request answers from the state that step 3 leaves -/

/-- What an asked READ request of a fitting body leaves, when its block only answers (R158, R178). -/
theorem read_answered {row : RequestRow} {dt : Nat} {s : State} {e : InputEntry} {code : Byte} {body body' : List Byte}
    {st : Status} (h : Asked s e code body) (hn : row.names = hasCode code) (hp : row.permission = .read)
    (hfits : row.fits body = true) (hc : requestCodes.contains code = true) (hl : code ≠ codeReadCounters)
    (hr : row.resets = false)
    (ha : row.answer e.request ((s.pass dt).ready e) = ⟨st, body', (s.pass dt).ready e⟩) :
    ∃ t, takeRequestEvent row dt s = .next t ∧ OnlyAnswered dt s t e ∧ Answered s t e st.code body' ∧
      Counted s t (st != .ok) := by
  have ⟨_, _, _, hcarries⟩ := h
  have hbody : e.request.body = body := Requests_body hcarries
  have hallowed : permissionRefusal row.permission e.request ((s.pass dt).ready e).agent = none := by rw [hp]; rfl
  obtain ⟨t, hstep, hans, honly, hcount⟩ := request_read h (names_of_carries hn hcarries) hc
    (fun heq => absurd heq hl) hr ((settle_allowed hallowed (hbody ▸ hfits)).trans ha)
  exact ⟨t, hstep, honly, hans, hcount⟩

/-! ### READ_TRUNK (R29) -/

/-- The time left to the floor expiry is told in RUNNING and STOPPING, of a floor that is ahead (R29). -/
theorem floorRemaining_eq_some_iff (s : State) (us : Nat) :
    floorRemaining s = some us ↔
      (s.engine.trunk = .running ∨ s.engine.trunk = .stopping) ∧ s.store.active.header.floor ≠ 0 ∧
        ∃ start, s.engine.roundStart = some start ∧ s.now < start + s.store.active.header.floor * 100 ∧
          us = (start + s.store.active.header.floor * 100 - s.now) / 100 := by
  by_cases htrunk : s.engine.trunk = .running ∨ s.engine.trunk = .stopping
  · by_cases hfloor : s.store.active.header.floor = 0
    · simp [floorRemaining, floorExpiry, hfloor]
    · cases hstart : s.engine.roundStart with
      | none => simp [floorRemaining, floorExpiry, hstart]
      | some start =>
        simp [floorRemaining, floorExpiry, hstart, htrunk, hfloor, microsecond]
        exact fun _ => eq_comm
  · simp [floorRemaining, htrunk]

/-- The presence byte of the trunk status item, by what is there (R211). -/
theorem presence_byte (index left : Bool) :
    byteOf ((if index = true then 1 else 0) + (if left = true then 2 else 0)) = match index, left with
      | false, false => 0x00 | true, false => 0x01 | false, true => 0x02 | true, true => 0x03 := by
  cases index <;> cases left <;> rfl

/-- Settles O10: the item is read of the state as step 3 leaves it, whose engine and store are those of the event. -/
theorem readTrunkReportsTheEngine : Obligations.ReadTrunkReportsTheEngine := by
  intro dt s e h floor now
  obtain ⟨t, hstep, honly, hans, hcount⟩ := read_answered (row := rowReadTrunk) (dt := dt) h rfl rfl rfl (by decide)
    (by decide) rfl rfl
  have hleft : floorRemaining ((s.pass dt).ready e) = floorRemaining (s.pass dt) := by
    obtain ⟨-, hnow, -, -, hstore, hengine, -⟩ := ready_frame e (s.pass dt)
    rw [floorRemaining, floorRemaining, floorExpiry, floorExpiry, hnow, hstore, hengine]
  have hphase : ∀ o : Option Phase, (o.map Phase.code).getD 0xFF = match o with | none => 0xFF | some p => p.code := by
    rintro (_ | p) <;> rfl
  refine ⟨t, hstep, honly, hcount, floorRemaining (s.pass dt), ?_, fun us => ?_⟩
  · simp only [trunkStatusBytes, hleft, presence_byte, hphase, flagByte, ready_frame, pass_engine, pass_store] at hans
    exact hans
  · simpa only [pass_engine, pass_store, pass_now] using floorRemaining_eq_some_iff (s.pass dt) us

/-! ### READ_STATIONS and READ_RULES (R80, R113) -/

theorem refused_outside_stations {n : Nat} : (!stationInRange n) = true ↔ n = 0 ∨ 30 < n := by
  simp [stationInRange]

/-- The records of a range of stations, in table order (R80). -/
def recordsFrom (first count : Nat) (l : List Station) : List Station :=
  l.filter fun r => first ≤ r.station && r.station < first + count && r.station ≤ 30

theorem answerReadStations_eq (q : Request) (s : State) :
    answerReadStations q s =
      if numAt q.body 0 = 0 ∨ 30 < numAt q.body 0 then refuseRange .first 0xFF s
      else okWith ([byteOf s.stations.length, byteOf (recordsFrom (numAt q.body 0) (numAt q.body 1) s.stations).length]
        ++ (recordsFrom (numAt q.body 0) (numAt q.body 1) s.stations).flatMap Station.bytes) s := by
  simp only [answerReadStations, refused_outside_stations]
  rfl

/-- The rules of a range are those of the indices from `first` on, as far as the table goes (R113). -/
theorem rulesFrom_eq_map (first count : Nat) (rules : List Rule) :
    rulesFrom first count rules
      = (List.range (min count (rules.length - first))).map fun i => (first + i, rules.getD (first + i) {}) := by
  apply List.ext_getElem
  · simp [rulesFrom]
  · intro i hi hj
    have hlen : first + i < rules.length := by
      simp only [List.length_map, List.length_range] at hj
      omega
    simp [rulesFrom, hlen]

theorem byteOf_toNat (b : Byte) : byteOf b.toNat = b := BitVec.ofNat_toNat 8 b

/-- The items of a range of rules after the defaults and their counters (R113). -/
def ruleBytes (first count : Nat) (a : Admission) : List Byte :=
  [a.defaultUp.code, a.defaultDown.code] ++ bytes4 a.hitsUp.toNat ++ bytes4 a.hitsDown.toNat
    ++ [byteOf first, byteOf (rulesFrom first count a.rules).length]
    ++ (rulesFrom first count a.rules).flatMap fun p => p.2.bytes p.1

theorem answerReadRules_eq (q : Request) (s : State) :
    answerReadRules q s = if 16 ≤ numAt q.body 0 then refuseRange .first 0xFF s
      else okWith (ruleBytes (numAt q.body 0) (numAt q.body 1) s.admission) s := rfl

/-- Settles O11: the range is checked first; the records of the range are a filter of the table, and the rules of the
range are told index by index. -/
theorem readStationsAndRulesReportARange : Obligations.ReadStationsAndRulesReportARange := by
  constructor
  · intro dt s e first count h
    have ⟨_, _, _, hcarries⟩ := h
    have hanswer := answerReadStations_eq e.request ((s.pass dt).ready e)
    rw [Requests_body hcarries] at hanswer
    change answerReadStations _ _ = if first.toNat = 0 ∨ 30 < first.toNat then _ else _ at hanswer
    by_cases hrange : first.toNat = 0 ∨ 30 < first.toNat
    · rw [if_pos hrange] at hanswer
      obtain ⟨t, hstep, honly, hans, hcount⟩ := read_answered (row := rowReadStations) (dt := dt) h rfl rfl rfl
        (by decide) (by decide) rfl hanswer
      refine ⟨t, hstep, honly, ?_⟩
      rw [if_pos hrange]
      exact ⟨hans, hcount⟩
    · rw [if_neg hrange] at hanswer
      obtain ⟨t, hstep, honly, hans, hcount⟩ := read_answered (row := rowReadStations) (dt := dt) h rfl rfl rfl
        (by decide) (by decide) rfl hanswer
      refine ⟨t, hstep, honly, ?_⟩
      rw [if_neg hrange]
      simp only [ready_frame, pass_stations] at hans
      refine ⟨hcount, recordsFrom first.toNat count.toNat s.stations, hans, List.filter_sublist, fun r => ?_⟩
      simp [recordsFrom, and_assoc]
  · intro dt s e first count h hplaces
    have ⟨_, _, _, hcarries⟩ := h
    have hanswer := answerReadRules_eq e.request ((s.pass dt).ready e)
    rw [Requests_body hcarries] at hanswer
    change answerReadRules _ _ = if 16 ≤ first.toNat then _ else okWith (ruleBytes first.toNat count.toNat _) _ at hanswer
    by_cases hrange : 16 ≤ first.toNat
    · rw [if_pos hrange] at hanswer
      obtain ⟨t, hstep, honly, hans, hcount⟩ := read_answered (row := rowReadRules) (dt := dt) h rfl rfl rfl
        (by decide) (by decide) rfl hanswer
      refine ⟨t, hstep, honly, ?_⟩
      rw [if_pos hrange]
      exact ⟨hans, hcount⟩
    · rw [if_neg hrange] at hanswer
      obtain ⟨t, hstep, honly, hans, hcount⟩ := read_answered (row := rowReadRules) (dt := dt) h rfl rfl rfl
        (by decide) (by decide) rfl hanswer
      refine ⟨t, hstep, honly, ?_⟩
      rw [if_neg hrange]
      simp only [ready_frame, pass_admission, ruleBytes, rulesFrom_eq_map, hplaces, byteOf_toNat, List.flatMap_map,
        List.length_map, List.length_range] at hans
      exact ⟨hcount, hans⟩

/-! ### READ_QUEUES and READ_NOTICES (R134, R192) -/

theorem filter_expedited (l : List Frame) : l.filter Frame.isExpedited = l.filter fun f => f.band == some .expedited :=
  rfl

/-- Of frames that all stand in a band, those that are not expedited are the normal ones (R120). -/
theorem filter_not_expedited {l : List Frame} (h : ∀ f ∈ l, f.band ≠ none) :
    (l.filter fun f => !f.isExpedited) = l.filter fun f => f.band == some .normal := by
  refine List.filter_congr fun f hf => ?_
  rw [Frame.isExpedited]
  match hb : f.band with
  | none => exact absurd hb (h f hf)
  | some .expedited => rfl
  | some .normal => rfl

theorem trunkSlotBytes_length (o : Option TrunkSlot) : (trunkSlotBytes o).length = 8 := by cases o <;> rfl

theorem uplinkSlotBytes_length (o : Option Frame) : (uplinkSlotBytes o).length = 5 := by cases o <;> rfl

theorem statusBytes_length (q : Queues) : q.statusBytes.length = 95 := by
  simp [Queues.statusBytes, Queue.statusBytes, bandBytes, QueueCounters.downDropBytes, QueueCounters.upDropBytes, bytes2,
    bytes4, trunkSlotBytes_length, uplinkSlotBytes_length]

/-- A notice item ends with the due flag and the retry in units of 10 ms, rounded up and at least 1 (R192, R211). -/
theorem notice_bytes_eq (now : Nat) (n : Notice) :
    n.bytes now = n.itemHead ++ match n.retry with
      | none => [0x01, 0x00]
      | some at_ => [0x00, byteOf (max 1 ((at_ - now + 999999) / 1000000))] := by
  unfold Notice.bytes
  cases n.retry <;> rfl

/-- Settles O12: both items are read of the queues and of the list as the event finds them; a frame of UQ that is not
expedited is a normal one, since every frame of UQ has a band. -/
theorem readQueuesAndNoticesReportEverything : Obligations.ReadQueuesAndNoticesReportEverything := by
  constructor
  · intro dt s e h q queue band hbands
    obtain ⟨t, hstep, honly, hans, hcount⟩ := read_answered (row := rowReadQueues) (dt := dt) h rfl rfl rfl
      (by decide) (by decide) rfl rfl
    simp only [ready_frame, pass_queues] at hans
    refine ⟨t, hstep, honly, hcount, _, hans, statusBytes_length _, ?_⟩
    rw [Queues.statusBytes, bandBytes, filter_not_expedited hbands, filter_expedited]
    simp only [q, queue, band, QueueCounters.downDropBytes, QueueCounters.upDropBytes, List.flatMap_cons, List.flatMap_nil,
      List.append_assoc, List.append_nil]
    cases q.trunkSlot <;> cases q.uplinkSlot <;> rfl
  · intro dt s e h
    obtain ⟨t, hstep, honly, hans, hcount⟩ := read_answered (row := rowReadNotices) (dt := dt) h rfl rfl rfl
      (by decide) (by decide) rfl rfl
    simp only [ready_frame, pass_notices, pass_now] at hans
    refine ⟨t, hstep, honly, hcount, ?_⟩
    rw [funext (notice_bytes_eq (s.now + dt))] at hans
    exact hans

end Sys2Proof.Machine
end

section
/-! PROOFS. READ_COUNTERS with and without clear (R196 to R200): the statements O13 and O14. -/

namespace Sys2Proof.Machine

open Sys2Proof.Safety

/-! ### The row a READ_COUNTERS frame names -/

/-- A byte of the body stands 24 bytes further in the frame (R153). -/
theorem numAt_of_carries {e : InputEntry} {code : Byte} {body : List Byte} {i : Nat} (h : Carries e code body)
    (hi : i < body.length) : numAt e.bytes (24 + i) = numAt body i := by
  obtain ⟨-, -, -, rfl⟩ := h
  simp only [envBody, List.length_take, List.length_drop, lt_inf_iff] at hi
  simp [numAt, byteAt, envBody, List.getD_eq_getElem?_getD, hi.1]

/-- A body that passes step 5 (R158). -/
theorem bodyLengthFits_of_carries {e : InputEntry} {code : Byte} {body : List Byte} (h : Carries e code body)
    (hl : code = codeReadCounters → 3 ≤ body.length) : bodyLengthFits e.bytes = true := by
  have hlength := envBody_length h
  obtain ⟨hcode, hlimit, hpresent, -⟩ := h
  simp only [bodyLengthFits, Bool.and_eq_true, decide_eq_true_eq, Bool.or_eq_true, bne_iff_ne, ne_eq]
  refine ⟨⟨hlimit, hpresent⟩, ?_⟩
  by_cases hcounters : code = codeReadCounters
  · exact .inr (hlength ▸ hl hcounters)
  · exact .inl (hcode ▸ hcounters)

theorem clearFlag_of_carries {e : InputEntry} {set station flag : Byte}
    (h : Carries e codeReadCounters [set, station, flag]) : clearFlag e.bytes = some flag.toNat := by
  rw [clearFlag, if_pos (bodyLengthFits_of_carries h fun _ => le_rfl)]
  exact congrArg some (numAt_of_carries (i := 2) h (by simp))

/-! ### What a set is, and what its clear leaves -/

/-- The counters of a set and its stamp, the agent's counters given apart (R196, R200). -/
def IsSet (s : State) (agent : AgentCounters) (set station : Nat) (counters : List Counter) (stamp : BitVec 32) : Prop :=
  (set = 0 → counters = s.uplink.counters.list ∧ stamp = s.stamps.ports)
  ∧ (set = 1 → counters = s.trunkCounters.list ∧ stamp = s.stamps.trunk)
  ∧ (set = 2 → ∀ r, s.station? station = some r → counters = r.counters.list ∧ stamp = r.clearStamp)
  ∧ (set = 3 → counters = s.queues.counterList ∧ stamp = s.stamps.queues)
  ∧ (set = 4 → counters = s.admission.counterList ∧ stamp = s.stamps.rules)
  ∧ (set = 5 → counters = agent.list ∧ stamp = s.stamps.agent)
  ∧ (set = 6 → counters = s.notices.counters.list ∧ stamp = s.stamps.notices)

/-- The blocks after a clear of a set (R199). -/
structure ClearedSet (s t : State) (set station : Nat) : Prop where
  ports : t.uplink.counters = if set = 0 then {} else s.uplink.counters
  trunk : t.trunkCounters = if set = 1 then {} else s.trunkCounters
  stations : t.stations = s.stations.map fun r => if set = 2 ∧ r.station = station then
    { r with counters := {}, clearStamp := s.identity.seconds } else r
  queues : t.queues = if set = 3 then s.queues.clearCounters else s.queues
  rules : t.admission = if set = 4 then s.admission.clearCounters else s.admission
  agent : t.agent = if set = 5 then { s.agent with counters := {} } else s.agent
  notices : t.notices = if set = 6 then { s.notices with counters := {} } else s.notices
  stamps : t.stamps =
    { ports := if set = 0 then s.identity.seconds else s.stamps.ports,
      trunk := if set = 1 then s.identity.seconds else s.stamps.trunk,
      queues := if set = 3 then s.identity.seconds else s.stamps.queues,
      rules := if set = 4 then s.identity.seconds else s.stamps.rules,
      agent := if set = 5 then s.identity.seconds else s.stamps.agent,
      notices := if set = 6 then s.identity.seconds else s.stamps.notices }

theorem counterSet_eq_none_iff {set : Nat} (station : Nat) (s : State) (h : ¬ 6 < set) :
    counterSet set station s = none ↔ set = 2 ∧ s.station? station = none := by
  match set, h with
  | 0, _ | 1, _ | 3, _ | 4, _ | 5, _ | 6, _ => simp [counterSet]
  | 2, _ => simp [counterSet]
  | n + 7, h => omega

theorem counterSet_isSet {set station : Nat} {s : State} {c : CounterSet} (h : counterSet set station s = some c) :
    IsSet s s.agent.counters set station c.counters c.stamp := by
  unfold counterSet at h
  dsimp only at h
  split at h
  case h_3 =>
    obtain ⟨r, hr, rfl⟩ := Option.map_eq_some_iff.mp h
    simp [IsSet, hr]
  case h_8 => cases h
  all_goals
    cases h
    simp [IsSet]

theorem counterSet_cleared {set station : Nat} {s : State} {c : CounterSet} (h : counterSet set station s = some c) :
    ClearedSet s c.cleared set station := by
  unfold counterSet at h
  dsimp only at h
  split at h
  case h_3 =>
    obtain ⟨r, hr, rfl⟩ := Option.map_eq_some_iff.mp h
    constructor <;> simp [State.onStation]
  case h_8 => cases h
  all_goals
    cases h
    constructor <;> simp

/-! ### The block's answer -/

/-- The body that tells a set (R198). -/
def setBytes (set station flag : Byte) (seconds : BitVec 32) (counters : List Counter) (stamp : BitVec 32) : List Byte :=
  [set, if set.toNat = 2 then station else 0x00, flag] ++ bytes4 seconds.toNat ++ bytes4 stamp.toNat
    ++ [byteOf counters.length] ++ counters.flatMap fun c => bytes4 c.toNat

/-- The checks of R197 in their order, then the set read and, with the flag, cleared. -/
theorem answerCounters_eq {q : Request} {set station flag : Byte} (hbody : q.body = [set, station, flag]) (s : State) :
    answerCounters q s =
      if 6 < set.toNat then refuseRange .set 0xFF s
      else if 1 < flag.toNat then refuseRange .clear 0xFF s
      else if set.toNat = 2 ∧ (station.toNat = 0 ∨ 30 < station.toNat) then refuseRange .station 0xFF s
      else match counterSet set.toNat station.toNat s with
        | none => refuse .unknownStation [] s
        | some c => okWith (setBytes set station flag s.identity.seconds c.counters c.stamp)
            (if flag.toNat = 1 then c.cleared else s) := by
  have hset : numAt q.body 0 = set.toNat := by rw [hbody]; rfl
  have hstation : numAt q.body 1 = station.toNat := by rw [hbody]; rfl
  have hflag : numAt q.body 2 = flag.toNat := by rw [hbody]; rfl
  simp only [answerCounters, hset, hstation, hflag, Bool.and_eq_true, refused_outside_stations, beq_iff_eq, stationSet,
    byteOf_toNat, setBytes] <;> rfl

theorem storeAndRoute_evicted (row : RequestRow) (q : Request) (a : Answer) :
    (State.storeAndRoute row q a).agent.counters.sessionsEvicted = a.state.agent.counters.sessionsEvicted := by
  unfold State.storeAndRoute State.route
  split
  · simp [countRefused_agent]
  · dsimp only
    split <;> simp [State.countAgent, countRefused_agent]

/-- A READ_COUNTERS request that its block only answers, from either origin; the agent's counters show its take (R158,
R200). -/
theorem counters_answered {row : RequestRow} {dt : Nat} {s : State} {e : InputEntry} {set station flag : Byte}
    {body' : List Byte} {st : Status} (h : Asked s e codeReadCounters [set, station, flag])
    (hn : row.names e.bytes = true) (hr : row.resets = false)
    (ha : row.settle e.request ((s.pass dt).ready e) = ⟨st, body', (s.pass dt).ready e⟩) :
    ∃ t, takeRequestEvent row dt s = .next t ∧ OnlyAnswered dt s t e ∧ Answered s t e st.code body' ∧
      Counted s t (st != .ok) ∧ t.agent.counters.sessionsEvicted = evictedAfterTake s e := by
  obtain ⟨t, hstep, hans, honly, hcount⟩ := request_read h hn (by decide) (fun _ => le_rfl) hr ha
  refine ⟨t, hstep, honly, hans, hcount, ?_⟩
  have ⟨htaken, henv, hfirst, hcarries⟩ := h
  have htake := takeRequest_judged (s := s.pass dt) htaken henv hfirst (takes_of_names hn)
  rw [(judge_settles hcarries (by decide) (fun _ => le_rfl) _).trans ha] at htake
  have hreset : s.resetRun = none := htaken.1
  obtain rfl : ((s.pass dt).takeRequest row).arbitrate = t := by
    simpa [takeRequestEvent, takeEvent, State.event, hreset] using hstep
  have hevicted : ((s.pass dt).ready e).agent.counters.sessionsEvicted = evictedAfterTake s e := by
    rw [ready_counters]
    rfl
  rw [← hevicted, (arbitrate_frame _).2.2.2.2.2.2.2.2.2.2.1, htake, storeAndRoute_evicted]

/-- Settles O13: the checks of R197 with a flag of 0 never clear, so the block only answers; the AGENT set is read of
the state that step 3 leaves, before the answer is routed. -/
theorem readCountersReportsASet : Obligations.ReadCountersReportsASet := by
  intro dt s e set station h
  have ⟨_, _, _, hcarries⟩ := h
  have hbody : e.request.body = [set, station, 0x00] := Requests_body hcarries
  have hnames : rowReadCounters.names e.bytes = true := by
    change isReadCounters e.bytes = true
    rw [isReadCounters, clearFlag_of_carries hcarries]
    simp [hasCode, hcarries.1, codeReadCounters]
  have hsettle : rowReadCounters.settle e.request ((s.pass dt).ready e)
      = answerCounters e.request ((s.pass dt).ready e) := settle_allowed rfl (by rw [hbody]; rfl)
  rw [answerCounters_eq hbody, if_neg (c := 1 < (0x00 : Byte).toNat) (by decide)] at hsettle
  by_cases hset : 6 < set.toNat
  · rw [if_pos hset] at hsettle
    obtain ⟨t, hstep, honly, hans, hcount, -⟩ := counters_answered h hnames rfl hsettle
    refine ⟨t, hstep, honly, ?_⟩
    rw [if_pos hset]
    exact ⟨hans, hcount⟩
  by_cases hstation : set.toNat = 2 ∧ (station.toNat = 0 ∨ 30 < station.toNat)
  · rw [if_neg hset, if_pos hstation] at hsettle
    obtain ⟨t, hstep, honly, hans, hcount, -⟩ := counters_answered h hnames rfl hsettle
    refine ⟨t, hstep, honly, ?_⟩
    rw [if_neg hset, if_pos hstation]
    exact ⟨hans, hcount⟩
  have hknown : ((s.pass dt).ready e).station? station.toNat = s.station? station.toNat := by simp [State.station?]
  rw [if_neg hset, if_neg hstation] at hsettle
  by_cases hunknown : set.toNat = 2 ∧ s.station? station.toNat = none
  · rw [(counterSet_eq_none_iff _ _ hset).mpr (hknown ▸ hunknown)] at hsettle
    obtain ⟨t, hstep, honly, hans, hcount, -⟩ := counters_answered h hnames rfl hsettle
    refine ⟨t, hstep, honly, ?_⟩
    rw [if_neg hset, if_neg hstation, if_pos hunknown]
    exact ⟨hans, hcount⟩
  · obtain ⟨c, hc⟩ := Option.ne_none_iff_exists'.mp
      (mt (counterSet_eq_none_iff _ _ hset).mp (hknown ▸ hunknown))
    rw [hc] at hsettle
    obtain ⟨t, hstep, honly, hans, hcount, hevicted⟩ := counters_answered h hnames rfl hsettle
    refine ⟨t, hstep, honly, ?_⟩
    rw [if_neg hset, if_neg hstation, if_neg hunknown]
    simp only [ready_frame, pass_identity] at hans
    refine ⟨hcount, c.counters, c.stamp, hans, ?_⟩
    have htake : { t.agent.counters with responsesDropped := s.agent.counters.responsesDropped }
        = ((s.pass dt).ready e).agent.counters := by
      obtain ⟨htaken, hrefused, hreplays, hdrops, hdiscards⟩ := hcount
      rw [ready_counters]
      simp only [htaken, hreplays, hdrops, hdiscards, hevicted, AgentCounters.mk.injEq]
      simp [hrefused, evictedAfterTake]
      rfl
    have hreads := counterSet_isSet hc
    simp only [IsSet, ready_frame, hknown, pass_uplink, pass_trunkCounters, pass_queues, pass_admission, pass_notices,
      pass_stamps, ← htake] at hreads
    exact hreads

/-- Settles O14: a refusal is only answered; with flag 1 the block leaves the cleared state, and what the answer adds
to it is the stored response, the output entry and the count of the take that stood before. -/
theorem clearReadsAndZeroesASet : Obligations.ClearReadsAndZeroesASet := by
  intro dt s e set station flag h hfrom hflag refused taken
  have ⟨_, _, _, hcarries⟩ := h
  have hbody : e.request.body = [set, station, flag] := Requests_body hcarries
  have hpositive : flag.toNat ≠ 0 := fun hzero => hflag (BitVec.eq_of_toNat_eq hzero)
  have hnames : rowReadCountersClear.names e.bytes = true := by
    change isReadCountersClear e.bytes = true
    rw [isReadCountersClear, clearFlag_of_carries hcarries]
    simp [hasCode, hcarries.1, codeReadCounters, hpositive]
  have hsettle : rowReadCountersClear.settle e.request ((s.pass dt).ready e)
      = answerCounters e.request ((s.pass dt).ready e) := settle_allowed (holder_allowed hfrom _ dt) (by rw [hbody]; rfl)
  rw [answerCounters_eq hbody] at hsettle
  by_cases hset : 6 < set.toNat
  · rw [if_pos hset] at hsettle
    obtain ⟨t, hstep, honly, hans, hcount, -⟩ := counters_answered h hnames rfl hsettle
    refine ⟨t, hstep, ?_⟩
    rw [if_pos hset]
    exact ⟨hans, honly, hcount⟩
  by_cases hclear : 1 < flag.toNat
  · rw [if_neg hset, if_pos hclear] at hsettle
    obtain ⟨t, hstep, honly, hans, hcount, -⟩ := counters_answered h hnames rfl hsettle
    refine ⟨t, hstep, ?_⟩
    rw [if_neg hset, if_pos hclear]
    exact ⟨hans, honly, hcount⟩
  by_cases hstation : set.toNat = 2 ∧ (station.toNat = 0 ∨ 30 < station.toNat)
  · rw [if_neg hset, if_neg hclear, if_pos hstation] at hsettle
    obtain ⟨t, hstep, honly, hans, hcount, -⟩ := counters_answered h hnames rfl hsettle
    refine ⟨t, hstep, ?_⟩
    rw [if_neg hset, if_neg hclear, if_pos hstation]
    exact ⟨hans, honly, hcount⟩
  have hknown : ((s.pass dt).ready e).station? station.toNat = s.station? station.toNat := by simp [State.station?]
  rw [if_neg hset, if_neg hclear, if_neg hstation] at hsettle
  by_cases hunknown : set.toNat = 2 ∧ s.station? station.toNat = none
  · rw [(counterSet_eq_none_iff _ _ hset).mpr (hknown ▸ hunknown)] at hsettle
    obtain ⟨t, hstep, honly, hans, hcount, -⟩ := counters_answered h hnames rfl hsettle
    refine ⟨t, hstep, ?_⟩
    rw [if_neg hset, if_neg hclear, if_neg hstation, if_pos hunknown]
    exact ⟨hans, honly, hcount⟩
  · obtain ⟨c, hc⟩ := Option.ne_none_iff_exists'.mp
      (mt (counterSet_eq_none_iff _ _ hset).mp (hknown ▸ hunknown))
    have hone : flag.toNat = 1 := by omega
    simp only [hc, if_pos hone] at hsettle
    obtain ⟨fpending, fnow, freset, fpins, fstore, fengine, fline, fidentity, fled, finput, foutput, fsessions, flease,
      fsoft, flink, freceiving, -⟩ := counterSet_frame _ _ _ _ hc
    obtain ⟨t, hstep, hans, tpending, tnow, treset, tpins, tstore, tengine, tline, ttrunk, tstations, tadmission,
      tqueues, tnotices, tstamps, tidentity, tled, tlink, treceiving, tports, tlease, tsoft, tcounters, -⟩ :=
      request_uplink h hnames (by decide) (fun _ => le_rfl) hfrom.1 hsettle finput foutput fsessions
        (by simp [okWith, fidentity]) (by simp [okWith, fnow])
    simp only [okWith] at hans tsoft tcounters
    obtain ⟨cports, ctrunk, cstations, cqueues, crules, cagent, cnotices, cstamps⟩ := counterSet_cleared hc
    obtain ⟨-, -, rlease, rsoft, -⟩ := ready_agent e (s.pass dt)
    have hsoft : s.agent.softReset = false := h.1.2.2.2
    have htaken : ((s.pass dt).ready e).agent.counters = taken := ready_counters e (s.pass dt)
    have hflagbyte : flag = 0x01 := BitVec.eq_of_toNat_eq hone
    refine ⟨t, hstep, ?_⟩
    rw [if_neg hset, if_neg hclear, if_neg hstation, if_neg hunknown]
    refine ⟨by simp [tnow, okWith, fnow], by simp [tpending, okWith, fpending], by simp [treset, okWith, freset], by simp [tpins, okWith, fpins],
      by simp [tlink, okWith, flink], by simp [treceiving, okWith, freceiving], ?_, by simp [tsoft, fsoft, rsoft, hsoft, rowReadCountersClear],
      by simp [tstore, okWith, fstore], by simp [tengine, okWith, fengine], by simp [tline, okWith, fline], by simp [tled, okWith, fled],
      by simp [tidentity, okWith, fidentity], ⟨c.counters, c.stamp, ?_, ?_⟩, by simp [tports, okWith, cports], by simp [ttrunk, okWith, ctrunk],
      by simp [tstations, okWith, cstations], ?_, ?_, ?_, by simp [tnotices, okWith, cnotices], by simp [tstamps, okWith, cstamps]⟩
    · simp [tlease, okWith, flease, rlease, tnow, fnow]
      rfl
    · simp only [ready_frame, pass_identity, hflagbyte] at hans
      exact hans
    · have hreads := counterSet_isSet hc
      simp only [IsSet, ready_frame, hknown, pass_uplink, pass_trunkCounters, pass_queues, pass_admission, pass_notices,
        pass_stamps, htaken] at hreads
      exact hreads
    · simp [tqueues, okWith, cqueues, Queues.clearCounters]
    · simp [tadmission, okWith, crules, Admission.clearCounters]
    · rw [tcounters, cagent]
      split <;> simp [htaken]

end Sys2Proof.Machine
end

section
/-! PROOFS. The lease requests and RESET_DEVICE (R169 to R175), and the conditions of a take (R157): the statements O15,
O16 and O17. -/

namespace Sys2Proof.Machine

open Sys2Proof.Safety

/-! ### A request of the lease class -/

/-- An asked uplink request of the lease class whose block changes the lease and the store alone (R170, R174). -/
theorem lease_answered {row : RequestRow} {dt : Nat} {s : State} {e : InputEntry} {code : Byte} {body body' : List Byte}
    {st : Status} {l : Option Lease} {f : Store → Store} (h : Asked s e code body) (hup : e.origin = .uplink)
    (hn : row.names = hasCode code) (hp : row.permission = .lease) (hfits : row.fits body = true)
    (hc : requestCodes.contains code = true) (hl : code ≠ codeReadCounters) (hr : row.resets = false)
    (ha : row.answer e.request ((s.pass dt).ready e)
      = ⟨st, body', (((s.pass dt).ready e).onAgent fun a => { a with lease := l }).onStore f⟩) :
    ∃ t, takeRequestEvent row dt s = .next t ∧ t.now = s.now + dt ∧ SameEngine s t ∧ SameIdentity s t ∧ SamePorts s t ∧
      t.stations = s.stations ∧ t.admission = s.admission ∧ SameTraffic s t ∧ t.store = f s.store ∧
      t.agent.softReset = false ∧ Answered s t e st.code body' ∧ t.agent.lease = l ∧ Counted s t (st != .ok) := by
  have ⟨⟨_, _, _, hsoft⟩, _, _, hcarries⟩ := h
  have hbody : e.request.body = body := Requests_body hcarries
  have hallowed : permissionRefusal row.permission e.request ((s.pass dt).ready e).agent = none := by
    have horigin : e.request.origin = .uplink := hup
    simp [hp, permissionRefusal, horigin]
  obtain ⟨t, hstep, hans, tpending, tnow, treset, tpins, tstore, tengine, tline, ttrunk, tstations, tadmission,
    tqueues, tnotices, tstamps, tidentity, tled, tlink, treceiving, tports, tlease, tsoft, tcounters, -⟩ :=
    request_uplink h (names_of_carries hn hcarries) hc (fun heq => absurd heq hl) hup
      ((settle_allowed hallowed (hbody ▸ hfits)).trans ha) (by simp) (by simp) (by simp) (by simp) (by simp)
  obtain ⟨-, -, -, rsoft, -, rcounted, -⟩ := ready_agent e (s.pass dt)
  refine ⟨t, hstep, by simp [tnow], ⟨by simp [tengine], by simp [tline], by simp [tled], by simp [ttrunk]⟩,
    ⟨by simp [tstamps], by simp [tidentity]⟩, ⟨by simp [tpending], by simp [treset], by simp [tpins], by simp [tlink],
      by simp [treceiving], by simp [tports]⟩, by simp [tstations], by simp [tadmission],
    ⟨by simp [tqueues], by simp [tline], by simp [tnotices]⟩, by simp [tstore], by simp [tsoft, rsoft, hsoft, hr], hans,
    by simp [tlease], ?_⟩
  unfold Counted at rcounted ⊢
  rw [tcounters]
  simpa using rcounted

/-- Whoever does not hold the lease leaves it as it is (R171). -/
theorem leaseAfterTake_of_not_holds {s : State} {e : InputEntry} (now : Nat)
    (h : s.agent.holds (frameSrc e.bytes) (envTag e.bytes) = false) : leaseAfterTake s e now = s.agent.lease := by
  simp [leaseAfterTake, h]

/-- The seconds of a lease that begins now are all left (R169, R170). -/
theorem remaining_of_granted (now : Nat) {duration : Nat} (h : duration ≠ 0) (address : Addr) (tag : BitVec 16) :
    Lease.remaining now { address, tag, duration, expiry := now + duration * second } = duration := by
  simp only [Lease.remaining, ceilDiv, second]
  omega

/-! ### CLAIM (R170) -/

/-- CLAIM of a duration that is not 0, by the present holder. -/
theorem answerClaim_eq {q : Request} {duration : Byte} (hbody : q.body = [duration]) (s : State) :
    answerClaim q s =
      if duration.toNat = 0 then refuseRange .duration 0xFF s
      else match s.agent.lease with
        | none => grantLease 0x01 duration.toNat q s
        | some l => if s.agent.holds q.src q.tag = true then grantLease 0x02 duration.toNat q s
          else refuse .heldByOther (addrBytes l.address ++ bytes2 l.tag.toNat ++ [byteOf (l.remaining s.now)]) s := by
  have hduration : numAt q.body 0 = duration.toNat := by rw [hbody]; rfl
  simp only [answerClaim, hduration, beq_iff_eq] <;> rfl

/-- The lease that a granted or renewed CLAIM leaves (R170). -/
def claimedLease (q : Request) (duration now : Nat) : Lease :=
  { address := q.src, tag := q.tag, duration, expiry := now + duration * second }

theorem grantLease_eq {duration : Byte} (h : duration.toNat ≠ 0) (code : Byte) (q : Request) (s : State) :
    grantLease code duration.toNat q s
      = ⟨.ok, [code, duration, duration],
          (s.onAgent fun a => { a with lease := some (claimedLease q duration.toNat s.now) }).onStore id⟩ := by
  simp only [grantLease, remaining_of_granted _ h, byteOf_toNat, okWith]
  rfl

/-- Settles O15, by the lease that the request finds: the holder and its key are as before the take, which renews the
holder's lease alone. -/
theorem claimGrantsRenewsOrRefuses : Obligations.ClaimGrantsRenewsOrRefuses := by
  intro dt s e duration h hup now granted
  have ⟨_, _, _, hcarries⟩ := h
  have hanswer := answerClaim_eq (Requests_body hcarries) ((s.pass dt).ready e)
  obtain ⟨-, -, rlease, -, rholds, -⟩ := ready_agent e (s.pass dt)
  have hholds : ((s.pass dt).ready e).agent.holds e.request.src e.request.tag
      = s.agent.holds (frameSrc e.bytes) (envTag e.bytes) := (rholds _ _).trans (by rw [pass_agent]; rfl)
  by_cases hduration : duration.toNat = 0
  · rw [if_pos hduration] at hanswer
    obtain ⟨t, hstep, hnow, hengine, hidentity, hports, hstations, hadmission, htraffic, hstore, hsoft, hans, hlease,
      hcount⟩ := lease_answered (row := rowClaim) (f := id) (dt := dt) h hup rfl rfl rfl (by decide) (by decide) rfl
        hanswer
    refine ⟨t, hstep, hnow, ⟨hstore, hengine.1, hengine.2.2.1, hengine.2.2.2, hstations, hadmission, hidentity.1,
      hidentity.2⟩, hports, htraffic, hsoft, ?_⟩
    rw [if_pos hduration]
    exact ⟨hans, hlease.trans rlease, hcount⟩
  rw [if_neg hduration] at hanswer
  have hgranted : ∀ code : Byte, answerClaim e.request ((s.pass dt).ready e)
      = grantLease code duration.toNat e.request ((s.pass dt).ready e) →
      ∃ t, exec (.claim dt) s = .next t ∧ t.now = now ∧ SameTables s t ∧ SamePorts s t ∧ SameTraffic s t ∧
        t.agent.softReset = false ∧ Answered s t e 0x00 [code, duration, duration] ∧ t.agent.lease = some granted ∧
        Counted s t false := by
    intro code hgrant
    rw [grantLease_eq hduration] at hgrant
    obtain ⟨t, hstep, hnow, hengine, hidentity, hports, hstations, hadmission, htraffic, hstore, hsoft, hans, hlease,
      hcount⟩ := lease_answered (row := rowClaim) (dt := dt) h hup rfl rfl rfl (by decide) (by decide) rfl hgrant
    refine ⟨t, hstep, hnow, ⟨hstore, hengine.1, hengine.2.2.1, hengine.2.2.2, hstations, hadmission, hidentity.1,
      hidentity.2⟩, hports, htraffic, hsoft, hans, ?_, hcount⟩
    rw [hlease, (ready_frame e _).2.1]
    rfl
  cases hheld : s.agent.lease with
  | none =>
    have hready : ((s.pass dt).ready e).agent.lease = none := by
      simp [rlease, leaseAfterTake, hheld]
    rw [hready] at hanswer
    obtain ⟨t, hstep, hnow, htables, hports, htraffic, hsoft, hans, hlease, hcount⟩ := hgranted 0x01 hanswer
    refine ⟨t, hstep, hnow, htables, hports, htraffic, hsoft, ?_⟩
    rw [if_neg hduration]
    exact ⟨hans, hlease, hcount⟩
  | some l =>
    by_cases hkey : l.address = frameSrc e.bytes ∧ l.tag = envTag e.bytes
    · have hholder : s.agent.holds (frameSrc e.bytes) (envTag e.bytes) = true :=
        (holds_iff _ _ _).mpr ⟨l, hheld, hkey⟩
      have hready : ∃ l', ((s.pass dt).ready e).agent.lease = some l' := by
        obtain ⟨l', hl', -⟩ := (holds_iff _ _ _).mp (hholds.trans hholder)
        exact ⟨l', hl'⟩
      obtain ⟨l', hl'⟩ := hready
      simp only [hl', hholds, hholder, if_true] at hanswer
      obtain ⟨t, hstep, hnow, htables, hports, htraffic, hsoft, hans, hlease, hcount⟩ := hgranted 0x02 hanswer
      refine ⟨t, hstep, hnow, htables, hports, htraffic, hsoft, ?_⟩
      rw [if_neg hduration]
      simp only [if_pos hkey]
      exact ⟨hans, hlease, hcount⟩
    · have hother : s.agent.holds (frameSrc e.bytes) (envTag e.bytes) = false := by
        simpa [Agent.holds, hheld] using hkey
      have hready : ((s.pass dt).ready e).agent.lease = some l := by
        rw [rlease, leaseAfterTake_of_not_holds _ (by simpa using hother)]
        exact hheld
      simp only [hready, hholds, hother, Bool.false_eq_true, if_false, ready_frame, pass_now] at hanswer
      obtain ⟨t, hstep, hnow, hengine, hidentity, hports, hstations, hadmission, htraffic, hstore, hsoft, hans, hlease,
        hcount⟩ := lease_answered (row := rowClaim) (f := id) (l := ((s.pass dt).ready e).agent.lease) (dt := dt) h hup
          rfl rfl rfl (by decide) (by decide) rfl hanswer
      refine ⟨t, hstep, hnow, ⟨hstore, hengine.1, hengine.2.2.1, hengine.2.2.2, hstations, hadmission, hidentity.1,
        hidentity.2⟩, hports, htraffic, hsoft, ?_⟩
      rw [if_neg hduration]
      simp only [if_neg hkey]
      exact ⟨hans, hlease.trans hready, hcount⟩

/-! ### RELEASE and RESET_DEVICE (R174, R175) -/

/-- Settles O16: RELEASE asks whether its session holds the lease, as every CLAIM does; RESET_DEVICE's block changes
nothing, and its row alone leaves a SOFT reset waiting. -/
theorem releaseAndResetDevice : Obligations.ReleaseAndResetDevice := by
  constructor
  · intro dt s e h hup
    obtain ⟨-, -, rlease, -, rholds, -⟩ := ready_agent e (s.pass dt)
    have hholds : ((s.pass dt).ready e).agent.holds e.request.src e.request.tag
        = s.agent.holds (frameSrc e.bytes) (envTag e.bytes) := (rholds _ _).trans (by rw [pass_agent]; rfl)
    have hanswer : answerRelease e.request ((s.pass dt).ready e)
        = if s.agent.holds (frameSrc e.bytes) (envTag e.bytes) = true then okWith [] ((s.pass dt).ready e).endLease
          else refuse .notHolder [] ((s.pass dt).ready e) := by rw [answerRelease, hholds]
    by_cases hholder : s.agent.holds (frameSrc e.bytes) (envTag e.bytes) = true
    · rw [if_pos hholder] at hanswer
      obtain ⟨t, hstep, hnow, hengine, hidentity, hports, hstations, hadmission, htraffic, hstore, -, hans, hlease,
        hcount⟩ := lease_answered (row := rowRelease) (l := none) (f := Store.revert) (dt := dt) h hup rfl rfl rfl
          (by decide) (by decide) rfl hanswer
      refine ⟨t, hstep, hnow, hengine, hidentity, hports, hstations, hadmission, htraffic,
        fun _ => ⟨hans, hcount, hlease, ?_⟩, fun hno => absurd ⟨hup, hholder⟩ hno⟩
      rw [hstore, Store.revert]
    · rw [if_neg hholder] at hanswer
      obtain ⟨t, hstep, hnow, hengine, hidentity, hports, hstations, hadmission, htraffic, hstore, -, hans, hlease,
        hcount⟩ := lease_answered (row := rowRelease) (l := ((s.pass dt).ready e).agent.lease) (f := id) (dt := dt) h
          hup rfl rfl rfl (by decide) (by decide) rfl hanswer
      refine ⟨t, hstep, hnow, hengine, hidentity, hports, hstations, hadmission, htraffic,
        fun hfrom => absurd hfrom.2 hholder, fun _ => ⟨hans, hcount, ?_, hstore⟩⟩
      rw [hlease, rlease, leaseAfterTake_of_not_holds _ (by simpa using hholder), pass_agent]
  · intro dt s e h hfrom
    have ⟨_, _, _, hcarries⟩ := h
    have hsettle : rowResetDevice.settle e.request ((s.pass dt).ready e)
        = ⟨.ok, [], (s.pass dt).ready e⟩ :=
      settle_allowed (holder_allowed hfrom _ dt) (by rw [Requests_body hcarries]; rfl)
    obtain ⟨t, hstep, hans, tpending, tnow, treset, tpins, tstore, tengine, tline, ttrunk, tstations, tadmission,
      tqueues, tnotices, tstamps, tidentity, tled, tlink, treceiving, tports, tlease, tsoft, tcounters, toutput⟩ :=
      request_uplink h (names_of_carries (row := rowResetDevice) rfl hcarries) (by decide) (by simp [codeReadCounters])
        hfrom.1 hsettle rfl rfl rfl (by simp) (by simp)
    obtain ⟨-, -, rlease, -, -, rcounted, -⟩ := ready_agent e (s.pass dt)
    refine ⟨t, hstep, by simp [tnow], ⟨by simp [tstore], by simp [tengine], by simp [tled], by simp [ttrunk],
        by simp [tstations], by simp [tadmission], by simp [tstamps], by simp [tidentity]⟩,
      ⟨by simp [tpending], by simp [treset], by simp [tpins], by simp [tlink], by simp [treceiving], by simp [tports]⟩,
      ⟨by simp [tqueues], by simp [tline], by simp [tnotices]⟩, hans, ?_, ?_, by simp [tsoft, rowResetDevice], toutput⟩
    · unfold Counted at rcounted ⊢
      rw [tcounters]
      simpa using rcounted
    · rw [tlease, rlease, tnow]
      simp
      rfl

/-! ### The conditions of a take (R157) -/

/-- Without its conditions no row takes a request (R157, R175). -/
theorem takeRequest_of_not_takeable {s : State} (row : RequestRow)
    (h : s.agent.input = [] ∨ 4 ≤ s.agent.output.length ∨ s.agent.softReset = true) : s.takeRequest row = s := by
  have hnone : s.takeable row = none := by
    unfold State.takeable
    cases hinput : s.agent.input with
    | nil => rfl
    | cons e rest =>
      rcases h with hempty | hfull | hsoft
      · cases hinput.symm.trans hempty
      · simp [Config.outputPlaces, Nat.not_lt.mpr hfull]
      · simp [hsoft]
  simp [State.takeRequest, hnone]

/-- A request command is an event of its row (R157). -/
theorem exec_request {c : Instr} {dt : Nat} {code : Byte} {k : PermissionClass} (h : requestOf c = some (dt, code, k))
    (s : State) : ∃ row, rowOf c = some row ∧ exec c s = takeRequestEvent row dt s := by
  cases c <;> simp only [requestOf, Option.some.injEq, Prod.mk.injEq, reduceCtorEq] at h <;>
    exact ⟨_, rfl, by rw [← h.1]; rfl⟩

/-- Settles O17: every request command asks the conditions of its row before anything else. -/
theorem noTakeWithoutItsConditions : Obligations.NoTakeWithoutItsConditions := by
  intro c dt code k s hrequest hreset hcondition
  obtain ⟨row, -, hexec⟩ := exec_request hrequest s
  rw [hexec, takeRequestEvent, takeEvent_eq (s := s.pass dt) hreset,
    takeRequest_of_not_takeable (s := s.pass dt) row hcondition]
  rfl

end Sys2Proof.Machine
end

section
/-! PROOFS. The steps of a take before a block is reached (R158, R159, R161, R163, R168): the statements O18, O19 and
O20. -/

namespace Sys2Proof.Machine

open Sys2Proof.Safety

/-! ### The row of a request command -/

section
variable {c : Instr} {row : RequestRow} {dt : Nat} {code : Byte} {k : PermissionClass}

/-- The class of a command's row is the class of its request (R167). -/
theorem row_permission (hrow : rowOf c = some row) (h : requestOf c = some (dt, code, k)) : row.permission = k := by
  cases c <;> simp only [requestOf, Option.some.injEq, Prod.mk.injEq, reduceCtorEq] at h <;>
    obtain ⟨-, -, rfl⟩ := h <;> cases hrow <;> rfl

/-- The sizes that a command's row takes are those of its request's layout (R210). -/
theorem row_fits (hrow : rowOf c = some row) (h : requestOf c = some (dt, code, k)) (b : List Byte) :
    row.fits b = bodyFits c b := by
  cases c <;> simp only [requestOf, Option.some.injEq, Prod.mk.injEq, reduceCtorEq] at h <;> cases hrow <;> rfl

/-- A command's code is a request code of the part (R158, step 6). -/
theorem requestCodes_contains (h : requestOf c = some (dt, code, k)) : requestCodes.contains code = true := by
  cases c <;> simp only [requestOf, Option.some.injEq, Prod.mk.injEq, reduceCtorEq] at h <;>
    obtain ⟨-, rfl, -⟩ := h <;> rfl

/-- Of the rows, RESET_DEVICE's alone leaves a SOFT reset waiting, after an OK answer (R175). -/
theorem row_resets_refused {st : Status} (hst : st ≠ .ok) : (row.resets && st == .ok) = false := by
  simp [hst]

end

theorem setStationAction_of_carries {e : InputEntry} {code : Byte} {body : List Byte} (h : Carries e code body)
    (hl : code = codeReadCounters → 3 ≤ body.length) :
    setStationAction e.bytes = if 2 ≤ body.length then some (numAt body 1) else none := by
  have hlength : envBodyLength e.bytes = body.length := envBody_length h
  simp only [setStationAction, bodyLengthFits_of_carries h hl, Bool.true_and, decide_eq_true_eq, hlength]
  split
  · rw [numAt_of_carries (i := 1) h (by omega)]
  · rfl

/-- A frame whose body spells a SET_STATION action, or none of the four, names the action's row (R77, log 3). -/
theorem isSetStation_of_carries {e : InputEntry} {body : List Byte} {action : Nat} (h : Carries e codeSetStation body)
    (hs : (2 ≤ body.length ∧ numAt body 1 = action) ∨ NamesNoAction body) : isSetStation action e.bytes = true := by
  have hcode : hasCode codeSetStation e.bytes = true := by
    obtain ⟨hcode, -⟩ := h
    simp [hasCode, hcode]
  rw [isSetStation, hcode, setStationAction_of_carries h (by simp [codeSetStation, codeReadCounters]), Bool.true_and]
  by_cases hlength : 2 ≤ body.length
  · simp only [if_pos hlength]
    rcases hs with ⟨-, rfl⟩ | hshort | hzero | hlarge
    · simp
    · omega
    · simp [hzero]
    · simp [hlarge]
  · simp [if_neg hlength]

/-- A body of three bytes at least tells its clear flag (R197). -/
theorem clearFlag_of_length {e : InputEntry} {body : List Byte} (h : Carries e codeReadCounters body)
    (hl : 3 ≤ body.length) : clearFlag e.bytes = some (numAt body 2) := by
  rw [clearFlag, if_pos (bodyLengthFits_of_carries h fun _ => hl), ← numAt_of_carries (i := 2) h (by omega)]

/-- The frame of a command's request names the command's row (R77, R197, R208). -/
theorem row_names_of_spells {c : Instr} {row : RequestRow} {dt : Nat} {code : Byte} {k : PermissionClass}
    {e : InputEntry} {body : List Byte} (hrow : rowOf c = some row) (h : requestOf c = some (dt, code, k))
    (hcarries : Carries e code body) (hs : bodySpells c body = true ∨ (code = 0x33 ∧ NamesNoAction body)) :
    row.names e.bytes = true := by
  cases c <;> simp only [requestOf, Option.some.injEq, Prod.mk.injEq, reduceCtorEq] at h <;>
    obtain ⟨-, rfl, -⟩ := h <;> cases hrow
  case setStationMute | setStationRestore | setStationBind | setStationUnbind =>
    refine isSetStation_of_carries hcarries ?_
    simpa [bodySpells] using hs
  case readCounters =>
    have hflag : 3 ≤ body.length ∧ numAt body 2 = 0 := by simpa [bodySpells] using hs
    change isReadCounters e.bytes = true
    rw [isReadCounters, clearFlag_of_length hcarries hflag.1, hflag.2]
    simp [hasCode, hcarries.1, codeReadCounters]
  case readCountersClear =>
    have hflag : 3 ≤ body.length ∧ numAt body 2 ≠ 0 := by simpa [bodySpells] using hs
    change isReadCountersClear e.bytes = true
    rw [isReadCountersClear, clearFlag_of_length hcarries hflag.1]
    simp [hasCode, hcarries.1, codeReadCounters, hflag.2]
  all_goals exact names_of_carries rfl hcarries

theorem bodyLengthFits_of_fails {e : InputEntry} (h : FailsStepFive e) : bodyLengthFits e.bytes = false := by
  rcases h with hlong | habsent | ⟨hcode, hshort⟩
  · simp [bodyLengthFits, Nat.not_le.mpr hlong]
  · simp [bodyLengthFits, bodyPresent, Nat.not_le.mpr habsent]
  · simp [bodyLengthFits, hcode, codeReadCounters, Nat.not_le.mpr hshort]

theorem bodyLengthFits_of_not_fails {e : InputEntry} (h : ¬ FailsStepFive e) : bodyLengthFits e.bytes = true := by
  simp only [FailsStepFive, not_or, not_and, Nat.not_lt] at h
  obtain ⟨hlimit, hpresent, hcounters⟩ := h
  simp only [bodyLengthFits, bodyPresent, codeReadCounters, Bool.and_eq_true, decide_eq_true_eq, Bool.or_eq_true,
    bne_iff_ne, ne_eq]
  exact ⟨⟨hlimit, decide_eq_true hpresent⟩, (em (envCode e.bytes = 0x70)).symm.imp id hcounters⟩

/-- A frame of the command's code whose body fails step 5 names the command's row, but for the clear (R158, log 3). -/
theorem row_names_of_fails {c : Instr} {row : RequestRow} {dt : Nat} {code : Byte} {k : PermissionClass}
    {e : InputEntry} (hrow : rowOf c = some row) (h : requestOf c = some (dt, code, k))
    (hcode : envCode e.bytes = code) (hclear : ∀ d, c ≠ .readCountersClear d) (hfails : FailsStepFive e) :
    row.names e.bytes = true := by
  have hfit := bodyLengthFits_of_fails hfails
  cases c <;> simp only [requestOf, Option.some.injEq, Prod.mk.injEq, reduceCtorEq] at h <;>
    obtain ⟨-, rfl, -⟩ := h <;> cases hrow
  case setStationMute | setStationRestore | setStationBind | setStationUnbind =>
    simp [rowSetStationMute, rowSetStationRestore, rowSetStationBind, rowSetStationUnbind, isSetStation, setStationAction,
      hfit, hasCode, hcode, codeSetStation]
  case readCounters =>
    simp [rowReadCounters, isReadCounters, clearFlag, hfit, hasCode, hcode, codeReadCounters]
  case readCountersClear d => exact absurd rfl (hclear d)
  all_goals exact beq_iff_eq.mpr hcode

/-- A code that no command's request has is none of the part's request codes (R158, step 6). -/
theorem requestCodes_of_namesNoRequest {code : Byte} (h : NamesNoRequest code) : requestCodes.contains code = false := by
  rw [Bool.eq_false_iff, ne_eq, List.contains_iff_mem]
  intro hmem
  simp only [requestCodes, List.mem_cons, List.not_mem_nil, or_false] at hmem
  rcases hmem with rfl | rfl | rfl | rfl | rfl | rfl | rfl | rfl | rfl | rfl | rfl | rfl | rfl | rfl | rfl | rfl | rfl
    | rfl | rfl | rfl | rfl | rfl | rfl | rfl | rfl
  · exact h (.identify 0) _ _ _ rfl rfl
  · exact h (.claim 0) _ _ _ rfl rfl
  · exact h (.release 0) _ _ _ rfl rfl
  · exact h (.resetDevice 0) _ _ _ rfl rfl
  · exact h (.readRound 0) _ _ _ rfl rfl
  · exact h (.writeRound 0) _ _ _ rfl rfl
  · exact h (.setRoundParams 0) _ _ _ rfl rfl
  · exact h (.commitRound 0) _ _ _ rfl rfl
  · exact h (.disarmRound 0) _ _ _ rfl rfl
  · exact h (.readTrunk 0) _ _ _ rfl rfl
  · exact h (.startTrunk 0) _ _ _ rfl rfl
  · exact h (.stopTrunk 0) _ _ _ rfl rfl
  · exact h (.readStations 0) _ _ _ rfl rfl
  · exact h (.enrolStation 0) _ _ _ rfl rfl
  · exact h (.withdrawStation 0) _ _ _ rfl rfl
  · exact h (.setStationMute 0) _ _ _ rfl rfl
  · exact h (.readRules 0) _ _ _ rfl rfl
  · exact h (.writeRules 0) _ _ _ rfl rfl
  · exact h (.setDefaults 0) _ _ _ rfl rfl
  · exact h (.readQueues 0) _ _ _ rfl rfl
  · exact h (.setQueueLimits 0) _ _ _ rfl rfl
  · exact h (.flushQueue 0) _ _ _ rfl rfl
  · exact h (.readNotices 0) _ _ _ rfl rfl
  · exact h (.ackNotices 0) _ _ _ rfl rfl
  · exact h (.readCounters 0) _ _ _ rfl rfl

/-- A READ_COUNTERS body that tells its row has its three bytes (R197). -/
theorem three_le_of_spells {c : Instr} {dt : Nat} {k : PermissionClass} {body : List Byte}
    (h : requestOf c = some (dt, codeReadCounters, k)) (hs : bodySpells c body = true) : 3 ≤ body.length := by
  cases c <;> simp only [requestOf, Option.some.injEq, Prod.mk.injEq, reduceCtorEq] at h <;>
    obtain ⟨-, hcode, -⟩ := h
  case readCounters | readCountersClear =>
    simp only [bodySpells, Bool.and_eq_true, decide_eq_true_eq] at hs
    exact hs.1
  all_goals exact absurd hcode (by decide)

/-! ### Refusals of steps 5 to 8 (R158, R168) -/

/-- The status with which step 7 refuses is the one that the class, the origin and the session give (R168). -/
theorem permissionRefusal_code (k : PermissionClass) (dt : Nat) (s : State) (e : InputEntry) :
    (permissionRefusal k e.request ((s.pass dt).ready e).agent).map Status.code = refusedByClass s e k := by
  obtain ⟨-, -, rlease, -, rholds, -⟩ := ready_agent e (s.pass dt)
  have hholds : ((s.pass dt).ready e).agent.holds e.request.src e.request.tag
      = s.agent.holds (frameSrc e.bytes) (envTag e.bytes) := (rholds _ _).trans (by rw [pass_agent]; rfl)
  have hlease : ((s.pass dt).ready e).agent.lease = none ↔ s.agent.lease = none := by
    rw [rlease, leaseAfterTake, pass_agent]
    split <;> simp
  have horigin : e.request.origin = e.origin := rfl
  by_cases hup : e.origin = .uplink
  · cases k
    case read | lease => simp [permissionRefusal, refusedByClass, horigin, hup]
    case write =>
      cases hheld : s.agent.holds (frameSrc e.bytes) (envTag e.bytes) <;>
        simp [permissionRefusal, refusedByClass, horigin, hup, hholds, hheld, Status.code]
    case ack =>
      by_cases hnone : s.agent.lease = none
      · simp [permissionRefusal, refusedByClass, horigin, hup, hlease.mpr hnone, hnone]
      · have hsome : ((s.pass dt).ready e).agent.lease.isSome = true :=
          Option.isSome_iff_ne_none.mpr (mt hlease.mp hnone)
        cases hheld : s.agent.holds (frameSrc e.bytes) (envTag e.bytes) <;>
          simp [permissionRefusal, refusedByClass, horigin, hup, hholds, hheld, hsome, hnone, Status.code]
  · cases k <;> simp [permissionRefusal, refusedByClass, horigin, hup, Status.code]

/-- Settles O18: the checks of steps 5 to 8 come in this order before the block's answer, and what each answers leaves
the state as step 3 left it. -/
theorem refusedByClassReachesNoBlock : Obligations.RefusedByClassReachesNoBlock := by
  intro c dt code k s e hrequest htaken henv hfirst answered
  obtain ⟨row, hrow, hexec⟩ := exec_request hrequest s
  have hanswered : ∀ st : Status, st ≠ .ok → row.takes e.bytes = true →
      row.judge e.bytes e.request ((s.pass dt).ready e) = ⟨st, [], (s.pass dt).ready e⟩ → answered st.code := by
    intro st hst htakes hjudge
    obtain ⟨t, hstep, hans, honly, hcount⟩ := judged_read htaken henv hfirst htakes (row_resets_refused hst) hjudge
    have hrefused : (st != .ok) = true := bne_iff_ne.mpr hst
    exact ⟨t, hexec.trans hstep, hans, honly, hrefused ▸ hcount⟩
  have htakes_unknown : NamesNoRequest (envCode e.bytes) → row.takes e.bytes = true := fun hno => by
    rw [RequestRow.takes, requestCodes_of_namesNoRequest hno]
    rfl
  refine ⟨fun hnames hfails => ?_, fun hno hpasses => ?_, fun body hcarries hspells => ?_⟩
  · have htakes : row.takes e.bytes = true := by
      rcases hnames with ⟨hcode, hclear⟩ | hno
      · exact takes_of_names (row_names_of_fails hrow hrequest hcode hclear hfails)
      · exact htakes_unknown hno
    refine hanswered .badRequest (by decide) htakes ?_
    simp [RequestRow.judge, bodyLengthFits_of_fails hfails, refuse]
  · refine hanswered .unknownCode (by decide) (htakes_unknown hno) ?_
    have hunknown : requestCodes.contains e.request.code = false := requestCodes_of_namesNoRequest hno
    simp only [RequestRow.judge, bodyLengthFits_of_not_fails hpasses, hunknown, refuse, Bool.not_true, Bool.not_false,
      Bool.false_eq_true, if_false, if_true]
  · have htakes : row.takes e.bytes = true := takes_of_names (row_names_of_spells hrow hrequest hcarries hspells)
    have hlength : code = codeReadCounters → 3 ≤ body.length := by
      rintro rfl
      rcases hspells with hspells | ⟨hcode, -⟩
      · exact three_le_of_spells hrequest hspells
      · exact absurd hcode (by decide)
    have hjudge := judge_settles (row := row) hcarries (requestCodes_contains hrequest) hlength ((s.pass dt).ready e)
    have hclass := permissionRefusal_code k dt s e
    rw [← row_permission hrow hrequest] at hclass
    refine ⟨fun status hrefused => ?_, fun hallowed hfits => ?_⟩
    · rw [← row_permission hrow hrequest, ← hclass] at hrefused
      obtain ⟨st, hst, rfl⟩ := Option.map_eq_some_iff.mp hrefused
      refine hanswered st ?_ htakes (hjudge.trans (settle_refused hst))
      rintro rfl
      revert hst
      unfold permissionRefusal
      (repeat' split) <;> simp
    · rw [← row_permission hrow hrequest, ← hclass] at hallowed
      refine hanswered .badRequest (by decide) htakes (hjudge.trans ?_)
      have hnofit : row.fits e.request.body = false := by rw [Requests_body hcarries, row_fits hrow hrequest, hfits]
      simp [RequestRow.settle, Option.map_eq_none_iff.mp hallowed, hnofit, refuse]

/-! ### Refusals that are not stored, and replays (R159, R161, R163) -/

/-- A take that changes the agent alone and routes one response, as an event (R165, R166). -/
theorem routed_event {row : RequestRow} {dt : Nat} {s s' : State} {origin : Port} {bytes : List Byte} {a : Agent}
    (hreset : s.resetRun = none) (htake : (s.pass dt).takeRequest row = s'.route origin bytes false)
    (hs : s' = (s.pass dt).onAgent fun _ => a) :
    ∃ t, takeRequestEvent row dt s = .next t ∧ t.now = s.now + dt ∧ SameTables s t ∧ SamePorts s t ∧
      (origin = .uplink → SameTraffic s t) ∧ t.agent.input = a.input ∧ t.agent.sessions = a.sessions ∧
      t.agent.lease = a.lease ∧ t.agent.softReset = a.softReset ∧
      t.agent.counters.requestsTaken = a.counters.requestsTaken ∧ t.agent.counters.refused = a.counters.refused ∧
      t.agent.counters.replays = a.counters.replays ∧
      t.agent.counters.envelopeDiscards = a.counters.envelopeDiscards ∧
      t.agent.output = a.output ++ (if origin = .uplink then [⟨bytes, false⟩] else []) := by
  have hevent : takeRequestEvent row dt s = .next (s'.route origin bytes false).arbitrate := by
    rw [takeRequestEvent, takeEvent_eq (s := s.pass dt) hreset, htake]
  subst hs
  obtain ⟨hlink, hreceiving, hcounters⟩ := arbitrate_uplink
    ((((s.pass dt).onAgent fun _ => a)).route origin bytes false)
  refine ⟨_, hevent, by simp, ⟨by simp, by simp, by simp, by simp, by simp, by simp, by simp, by simp⟩,
    ⟨by simp, by simp, by simp, by simp [hlink], by simp [hreceiving], by simp [hcounters]⟩, ?_, ?_⟩
  · rintro rfl
    obtain ⟨hqueues, -⟩ := arbitrate_output
      (s := ((s.pass dt).onAgent fun _ => a).route .uplink bytes false) (r := ⟨bytes, false⟩) (l := a.output) rfl
    exact ⟨by rw [hqueues]; rfl, by simp [State.route], by simp [State.route]⟩
  · cases origin with
    | uplink => simp [State.route]
    | trunk n => simp

/-- An event that changes the agent alone, with the arbiter at its end. -/
theorem agentOnly_arbitrate (s : State) (a : Agent) :
    SameTables s (s.onAgent fun _ => a).arbitrate ∧ SamePorts s (s.onAgent fun _ => a).arbitrate ∧
      (s.onAgent fun _ => a).arbitrate.line = s.line ∧ (s.onAgent fun _ => a).arbitrate.notices = s.notices := by
  obtain ⟨hlink, hreceiving, hcounters⟩ := arbitrate_uplink (s.onAgent fun _ => a)
  exact ⟨⟨by simp, by simp, by simp, by simp, by simp, by simp, by simp, by simp⟩,
    ⟨by simp, by simp, by simp, by simp [hlink], by simp [hreceiving], by simp [hcounters]⟩, by simp, by simp⟩

/-- The entry at the head of the input list is taken under the row that its frame names (R157). -/
theorem takeable_of_taken {row : RequestRow} {s : State} {e : InputEntry} (htaken : Taken s e)
    (htakes : row.takes e.bytes = true) : s.takeable row = some e := by
  obtain ⟨-, hhead, hout, hsoft⟩ := htaken
  obtain ⟨rest, hrest⟩ := List.head?_eq_some_iff.mp hhead
  simp [State.takeable, hrest, hout, hsoft, htakes, Config.outputPlaces]

/-- A request of a command, taken under the command's row. -/
theorem takes_of_requests {c : Instr} {dt : Nat} {k : PermissionClass} {e : InputEntry} {body : List Byte}
    (h : Requests c dt k e body) :
    ∃ code row, requestOf c = some (dt, code, k) ∧ rowOf c = some row ∧ Carries e code body ∧
      bodySpells c body = true ∧ row.names e.bytes = true ∧ ∀ s, exec c s = takeRequestEvent row dt s := by
  obtain ⟨code, hrequest, hcarries, hspells⟩ := h
  obtain ⟨row, hrow, -⟩ := exec_request hrequest State.reset
  refine ⟨code, row, hrequest, hrow, hcarries, hspells, row_names_of_spells hrow hrequest hcarries (.inl hspells),
    fun s => ?_⟩
  obtain ⟨row', hrow', hexec⟩ := exec_request hrequest s
  rw [hrow, Option.some.injEq] at hrow'
  exact hrow' ▸ hexec

/-- Settles O19, by the three ways in which steps 1 to 3 end a take. -/
theorem envelopeRefusalsTouchNoSession : Obligations.EnvelopeRefusalsTouchNoSession := by
  intro c dt k s e body hrequests htaken hother discarded status
  obtain ⟨code, row, -, -, -, -, hnames, hexec⟩ := takes_of_requests hrequests
  have ⟨hreset, _, _, hsoft⟩ := htaken
  have htake : (s.pass dt).takeRequest row = (s.pass dt).removeTaken.carry row e := by
    rw [State.takeRequest, takeable_of_taken (s := s.pass dt) htaken (takes_of_names hnames)]
  by_cases hdiscarded : envVersion e.bytes ≠ 1 ∨ envKind e.bytes ≠ 1
  · have hcarry : (s.pass dt).removeTaken.carry row e
        = (s.pass dt).removeTaken.countAgent fun c => { c with envelopeDiscards := c.envelopeDiscards + 1 } := by
      rw [State.carry, if_pos]
      simpa [kindRequest] using hdiscarded
    obtain ⟨htables, hports, hline, hnotices⟩ := agentOnly_arbitrate (s.pass dt)
      ((s.pass dt).removeTaken.countAgent fun c => { c with envelopeDiscards := c.envelopeDiscards + 1 }).agent
    refine ⟨_, (hexec s).trans (takeEvent_eq (s := s.pass dt) hreset), ?_⟩
    rw [htake, hcarry]
    refine ⟨by simp [State.removeTaken], htables, hports, fun _ => ⟨hline, hnotices⟩, ?_, ?_, ?_, ?_, ?_, ?_,
      fun _ => ⟨?_, ?_, ?_⟩, fun hno => absurd hdiscarded hno⟩
    all_goals simp [State.removeTaken, State.countAgent, hsoft]
  · have henvelope : envVersion e.bytes = 1 ∧ envKind e.bytes = 1 := by simpa [not_or] using hdiscarded
    have hcarry : ∃ st : Status, st.code = status ∧ st ≠ .ok ∧
        (s.pass dt).removeTaken.carry row e = (s.pass dt).removeTaken.refuseUnstored st e.request := by
      have hstays : ¬ (envVersion e.bytes != 1 || envKind e.bytes != kindRequest) = true := by
        simp [henvelope.1, henvelope.2, kindRequest]
      by_cases htag : envTag e.bytes = 0
      · refine ⟨.badRequest, (if_pos htag).symm, by decide, ?_⟩
        rw [State.carry, if_neg hstays, if_pos (beq_iff_eq.mpr (show e.request.tag = 0 from htag))]
      · obtain ⟨x, hx, horigin⟩ := hother ⟨henvelope.1, henvelope.2, htag⟩
        refine ⟨.notPermitted, (if_neg htag).symm, by decide, ?_⟩
        have hfound : (s.pass dt).removeTaken.agent.sessions.find? (Session.hasKey e.request.src e.request.tag) = some x :=
          hx
        have hdiffers : ¬ (x.origin == e.request.origin) = true := fun heq => horigin (beq_iff_eq.mp heq)
        have htagged : ¬ (e.request.tag == 0) = true := fun heq => htag (beq_iff_eq.mp heq)
        rw [State.carry, if_neg hstays, if_neg htagged, State.stepThree, hfound]
        simp only [if_neg hdiffers]
    obtain ⟨st, hst, hrefused, hcarry⟩ := hcarry
    rw [hcarry, State.refuseUnstored] at htake
    have hframe : (s.pass dt).removeTaken.responseFrame e.request st [] = responseTo s e status [] := by rw [← hst]; rfl
    rw [hframe] at htake
    have hcounted : (s.pass dt).removeTaken.countRefused st
        = (s.pass dt).onAgent fun _ => ((s.pass dt).removeTaken.countRefused st).agent := by
      rw [State.countRefused, if_neg (by simpa using hrefused)]
      rfl
    obtain ⟨t, hstep, hnow, htables, hports, htraffic, hinput, hsessions, hlease, hwaits, htakenCount, hrefusedCount,
      hreplays, hdiscards, houtput⟩ := routed_event hreset htake hcounted
    rw [countRefused_agent] at hinput hsessions hlease hwaits htakenCount hrefusedCount hreplays hdiscards houtput
    rw [if_pos (bne_iff_ne.mpr hrefused)] at hrefusedCount
    refine ⟨t, (hexec s).trans hstep, hnow, htables, hports, ?_, hinput, hsessions, hlease, hwaits.trans hsoft,
      htakenCount, hreplays, fun hyes => absurd hyes hdiscarded, fun _ => ⟨hdiscards, hrefusedCount, houtput⟩⟩
    rintro (hup | hyes)
    · exact (htraffic hup).2
    · exact absurd hyes hdiscarded

/-- Settles O20: step 4 finds the sequence it stored and routes the stored response, of the state that step 3 leaves. -/
theorem replayIsNotExecuted : Obligations.ReplayIsNotExecuted := by
  intro c dt k s e body stored x hrequests htaken henv hx horigin hlast
  obtain ⟨code, row, -, -, -, -, hnames, hexec⟩ := takes_of_requests hrequests
  have ⟨hreset, _, _, hsoft⟩ := htaken
  obtain ⟨hversion, hkind, htag⟩ := henv
  have hfound : (s.pass dt).removeTaken.agent.sessions.find? (Session.hasKey e.request.src e.request.tag) = some x := hx
  have hready : (s.pass dt).ready e = (s.pass dt).removeTaken.onAgent (Agent.touch (s.now + dt) e.request) := by
    have hx' : sessionOf (s.pass dt) e = some x := hx
    rw [State.ready, hx']
    rfl
  have htake : (s.pass dt).takeRequest row = (((s.pass dt).ready e).countAgent fun c =>
      { c with replays := c.replays + 1 }).route e.origin stored false := by
    rw [State.takeRequest, takeable_of_taken (s := s.pass dt) htaken (takes_of_names hnames), hready]
    simp only [State.carry, hversion, hkind, kindRequest, bne_self_eq_false, Bool.or_self, Bool.false_eq_true, if_false,
      beq_iff_eq, show ¬ e.request.tag = 0 from htag, State.stepThree, hfound,
      show x.origin = e.request.origin from horigin, State.stepsFour, hlast,
      show envSeq e.bytes = e.request.seq from rfl, if_true]
    rfl
  obtain ⟨rinput, routput, rlease, rsoft, -, rcounted, -⟩ := ready_agent e (s.pass dt)
  obtain ⟨rtaken, rrefused, rreplays, -, -⟩ := rcounted
  obtain ⟨t, hstep, hnow, htables, hports, htraffic, hinput, hsessions, hlease, hwaits, htakenCount, hrefusedCount,
    hreplays, -, houtput⟩ := routed_event hreset htake (a := (((s.pass dt).ready e).countAgent fun c =>
      { c with replays := c.replays + 1 }).agent) (by rw [hready]; rfl)
  simp only [State.countAgent, onAgent_agent] at hinput hsessions hlease hwaits htakenCount hrefusedCount hreplays houtput
  refine ⟨t, (hexec s).trans hstep, ⟨hnow, htables, hports, htraffic, ?_, ?_⟩, hinput.trans rinput, ?_, ?_,
    htakenCount.trans rtaken, ?_, ?_⟩
  · rw [hlease, rlease, hnow]
    rfl
  · rw [hwaits, rsoft]
    exact hsoft
  · have hmap : ((s.pass dt).ready e).agent.sessions = s.agent.sessions.map fun x =>
        if x.hasKey (frameSrc e.bytes) (envTag e.bytes) then { x with lastTake := s.now + dt } else x := by
      rw [hready]
      simp [Agent.touch, Agent.onSession, State.removeTaken, InputEntry.request]
    rw [sessionOf, hsessions, hmap, find_map_key _ _ _ (by simp)]
    exact congrArg (Option.map _) hx
  · rw [houtput, routput, pass_agent]
  · rw [hreplays, rreplays, pass_agent]
  · rw [hrefusedCount, rrefused, pass_agent]
    simp

end Sys2Proof.Machine
end

section
/-! PROOFS. The admission decision (R105 to R112), the enqueue (R124) and the report of an outcome (R64 to R71): the
statements O29, O30 and O31. -/

namespace Sys2Proof.Machine

open Sys2Proof.Safety

/-! ### Which rules select a frame (R105 to R108) -/

/-- A rule selects a presented frame: it is enabled and its direction, masked destination, type and origin fit (R105 to
R108). -/
def Rule.Selects (p : Presented) (r : Rule) : Prop :=
  r.enabled = true
    ∧ (r.direction = .either ∨ (r.direction = .up ∧ p.station.isSome = true)
      ∨ (r.direction = .down ∧ p.station.isSome = false))
    ∧ (∀ i, i < 48 → r.mask.getLsbD i = true → (addrAt p.bytes 0).getLsbD i = r.value.getLsbD i)
    ∧ (∀ x, r.type = some x → x = byteAt p.bytes 12 ++ byteAt p.bytes 13)
    ∧ (∀ n, r.origin = some n → p.station = some n)

theorem includes_iff (d : Direction) (up : Bool) :
    d.includes up = true ↔ d = .either ∨ (d = .up ∧ up = true) ∨ (d = .down ∧ up = false) := by
  cases d <;> simp [Direction.includes]

/-- Two addresses agree under a mask when they agree in every bit of the mask (R106). -/
theorem masked_eq_iff (x v m : BitVec 48) :
    x &&& m = v &&& m ↔ ∀ i, i < 48 → m.getLsbD i = true → x.getLsbD i = v.getLsbD i := by
  constructor
  · intro h i _ hm
    have hbit := congrArg (fun b => b.getLsbD i) h
    simpa [hm] using hbit
  · intro h
    refine BitVec.eq_of_getLsbD_eq fun i hi => ?_
    cases hm : m.getLsbD i with
    | false => simp [hm]
    | true => simp [hm, h i hi hm]

theorem matchesFrame_iff (p : Presented) (r : Rule) : r.matchesFrame p = true ↔ r.Selects p := by
  have htype : (match r.type with | none => true | some t => t == frameType p.bytes) = true
      ↔ ∀ x, r.type = some x → x = byteAt p.bytes 12 ++ byteAt p.bytes 13 := by
    cases r.type <;> simp [frameType, wordAt]
  have horigin : (match r.origin with | none => true | some n => p.station == some n) = true
      ↔ ∀ n, r.origin = some n → p.station = some n := by
    cases r.origin <;> simp
  simp only [Rule.matchesFrame, Bool.and_eq_true, includes_iff, beq_iff_eq, masked_eq_iff, Rule.Selects, frameDst,
    and_assoc]
  exact and_congr .rfl (and_congr .rfl (and_congr .rfl (and_congr htype horigin)))

/-! ### The decision (R109) -/

theorem decideRules_of_first {p : Presented} {l : List Rule} {i : Nat} {r : Rule} (hr : l[i]? = some r)
    (hselects : r.Selects p) (hbefore : ∀ j q, j < i → l[j]? = some q → ¬ q.Selects p) :
    decideRules p l = some (r.action, l.set i { r with hits := r.hits + 1 }) := by
  induction l generalizing i with
  | nil => simp at hr
  | cons q rest ih =>
    cases i with
    | zero =>
      obtain rfl : q = r := by simpa using hr
      simp [decideRules, (matchesFrame_iff p q).mpr hselects]
    | succ i =>
      have hq : ¬ q.matchesFrame p = true :=
        mt (matchesFrame_iff p q).mp (hbefore 0 q (Nat.succ_pos i) rfl)
      have hrest := ih (by simpa using hr) fun j x hj hx => hbefore (j + 1) x (by omega) (by simpa using hx)
      rw [decideRules, if_neg hq, hrest]
      rfl

theorem decideRules_of_none {p : Presented} {l : List Rule} (h : ∀ r ∈ l, ¬ r.Selects p) : decideRules p l = none := by
  induction l with
  | nil => rfl
  | cons q rest ih =>
    have hq : ¬ q.matchesFrame p = true := mt (matchesFrame_iff p q).mp (h q List.mem_cons_self)
    rw [decideRules, if_neg hq, ih fun r hr => h r (List.mem_cons_of_mem q hr)]
    rfl

/-- Settles O29: the decision by induction on the rules before the first that selects, and the place by the action and
the way the frame came. -/
theorem firstMatchingRuleDecides : Obligations.FirstMatchingRuleDecides := by
  intro p a up selects
  refine ⟨fun i r hr hselects hbefore => ?_, fun hnone => ?_, fun s hs => ?_⟩
  · rw [Admission.decide, decideRules_of_first hr hselects hbefore]
  · rw [Admission.decide, decideRules_of_none hnone]
  · subst hs
    intro decided
    have hoffer : decided.offerAgent p =
        if (byteAt p.bytes 12 ++ byteAt p.bytes 13 : BitVec 16) ≠ 0xA7D1 ∨ 508 < p.bytes.length then
          { decided with admission := { decided.admission with agentRejects := decided.admission.agentRejects + 1 } }
        else if s.agent.input.length < 4 then
          { decided with agent := { s.agent with input := s.agent.input ++ [⟨p.port, p.bytes⟩] } }
        else { decided with agent := { s.agent with counters :=
          { s.agent.counters with inputDrops := s.agent.counters.inputDrops + 1 } } } := by
      simp only [State.offerAgent, Bool.or_eq_true, bne_iff_ne, decide_eq_true_eq]
      rfl
    change decided.carryAction (s.admission.decide p).1 p = _
    cases (s.admission.decide p).1 with
    | forward => cases hp : p.station <;> simp [State.carryAction, Presented.frame, hp]
    | expedite => cases hp : p.station <;> simp [State.carryAction, Presented.frame, hp]
    | drop => rfl
    | agent =>
      rw [State.carryAction, hoffer]
      cases hp : p.station <;> simp [Presented.port, hp, decided]

/-! ### The enqueue (R124) -/

theorem considerFill_of_phase {s : State} (h : s.engine.phase ≠ some .floor) : s.considerFill = s := by
  simp [State.considerFill, fillIdle, h]

theorem enqueue_of_fails {q : QueueName} {f : Frame} {s : State} {reason : DropReason}
    (h : enqueueFails q f.cells s = some reason) : s.enqueue q f = s.dropAtEnqueue q f.cells reason := by
  rw [State.enqueue, h]

theorem enqueue_of_passes {q : QueueName} {f : Frame} {s : State} (h : enqueueFails q f.cells s = none)
    (hfill : q = .dx → s.queues.dx.frames = [] → s.engine.phase ≠ some .floor) :
    s.enqueue q f = s.onQueues (Queues.join q f) := by
  rw [State.enqueue, h]
  change (if (q == .dx && s.queues.dx.frames.isEmpty) = true then _ else _) = _
  split
  · rename_i hempty
    simp only [Bool.and_eq_true, beq_iff_eq, List.isEmpty_iff] at hempty
    exact considerFill_of_phase (hfill hempty.1 hempty.2)
  · rfl

/-- Settles O30: the checks one by one; what passes joins, and outside FLOOR or behind other frames the fill does not
consider it. -/
theorem enqueueChecksInOrder : Obligations.EnqueueChecksInOrder := by
  intro name f s hfill q c counted
  have hfails : enqueueFails name f.cells s =
      if name = .uq ∧ s.uplink.link = false then some .linkDown
      else if q.frameLimit < q.frames.length + 1 then some .frameLimit
      else if q.cellLimit < cellSum q.frames + c then some .cellLimit
      else if s.queues.free < c then some .pool else none := by
    simp only [enqueueFails, Bool.and_eq_true, beq_iff_eq, Bool.not_eq_true']
    rfl
  have hdropped : ∀ reason, enqueueFails name f.cells s = some reason →
      s.enqueue name f = s.dropAtEnqueue name c reason := fun reason hr => enqueue_of_fails hr
  have hcounted : ∀ k : QueueCounters → QueueCounters,
      s.onQueues (Queues.on name (Queue.count k)) = counted (k q.counters) := fun k => by
    cases name <;> rfl
  by_cases hlink : name = .uq ∧ s.uplink.link = false
  · rw [if_pos hlink] at hfails ⊢
    rw [hdropped _ hfails]
    exact hcounted _
  rw [if_neg hlink] at hfails ⊢
  by_cases hframes : q.frameLimit < q.frames.length + 1
  · rw [if_pos hframes] at hfails ⊢
    rw [hdropped _ hfails]
    exact hcounted _
  rw [if_neg hframes] at hfails ⊢
  by_cases hcells : q.cellLimit < cellSum q.frames + c
  · rw [if_pos hcells] at hfails ⊢
    rw [hdropped _ hfails]
    exact hcounted _
  rw [if_neg hcells] at hfails ⊢
  by_cases hpool : s.queues.free < c
  · rw [if_pos hpool] at hfails ⊢
    rw [hdropped _ hfails]
    change (s.onQueues (Queues.on name (Queue.count (QueueCounters.drop .pool)))).raise _ _ _ = _
    rw [hcounted]
    rfl
  rw [if_neg hpool] at hfails ⊢
  rw [enqueue_of_passes hfails hfill]
  have hjoined : ∀ l, joinFrames f l = if f.band = some .expedited then
      l.takeWhile (fun x => x.band == some .expedited) ++ f :: l.dropWhile (fun x => x.band == some .expedited)
      else l ++ [f] := fun l => by
    rw [joinFrames, Frame.isExpedited]
    simp only [beq_iff_eq]
    rfl
  cases name <;> simp only [State.onQueues, Queues.join, Queues.on, hjoined] <;> rfl

/-! ### The report of an outcome (R64 to R71) -/

/-- An answer clears the misses and brings UNSEEN and LAPSED to PRESENT (R65). -/
theorem judgeAnswer_eq {p : Report} (h : p.outcome.isAnswer = true) (r : Station) :
    judgeAnswer p (r, none) =
      ({ r with missCount := 0, lastAnswered := some p.round,
                state := if r.state = .unseen ∨ r.state = .lapsed then StationState.present else r.state },
       if r.state = .unseen ∨ r.state = .lapsed then some .answered else none) := by
  by_cases hstate : r.state = .unseen ∨ r.state = .lapsed <;> simp [judgeAnswer, h, hstate]

theorem judgeAnswer_of_no_answer {p : Report} (h : p.outcome.isAnswer = false) (j : Judged) : judgeAnswer p j = j := by
  simp [judgeAnswer, h]

theorem judgeMiss_of_ne {p : Report} (h : p.outcome ≠ .missed) (limit : Nat) (j : Judged) :
    judgeMiss limit p j = j := by
  simp [judgeMiss, h]

/-- A miss of a record, LAPSED at the miss limit (R66). -/
theorem judgeMiss_missed (limit : Nat) (round : BitVec 8) (bad foreign : Nat) (r : Station) :
    judgeMiss limit ⟨.missed, round, bad, foreign⟩ (r, none) =
      if limit ≤ min 15 (r.missCount + 1) ∧ (r.state = .unseen ∨ r.state = .present) then
        ({ r with missCount := min 15 (r.missCount + 1), state := .lapsed }, some .misses)
      else ({ r with missCount := min 15 (r.missCount + 1) }, none) := by
  simp only [judgeMiss, beq_self_eq_true, if_true, Bool.and_eq_true, decide_eq_true_eq, Bool.or_eq_true, beq_iff_eq]
  rfl

theorem judgeStrike_of_ne {p : Report} (h : p.outcome ≠ .collided ∧ p.outcome ≠ .excess) (limit : Nat) (j : Judged) :
    judgeStrike limit p j = j := by
  simp [judgeStrike, h]

theorem judgeOverrun_of_ne {p : Report} (h : p.outcome ≠ .overrun) (j : Judged) : judgeOverrun p j = j := by
  simp [judgeOverrun, h]

/-- A clean answer lengthens the clean run, or forgives a strike (R70). -/
theorem judgeRun_of_clean {p : Report} (h : p.isClean = true) (j : Judged) :
    judgeRun p j = (if j.1.cleanRun + 1 = 32 then { j.1 with cleanRun := 0, strikeCount := j.1.strikeCount - 1 }
      else { j.1 with cleanRun := j.1.cleanRun + 1 }, j.2) := by
  simp only [judgeRun, h, if_true, beq_iff_eq]
  split <;> rfl

theorem judgeRun_of_not_clean {p : Report} (h : p.isClean = false) (j : Judged) :
    judgeRun p j = ({ j.1 with cleanRun := 0 }, j.2) := by
  simp [judgeRun, h]

/-- A present record is MUTED no more than it was before the answer (R65, R67). -/
theorem muted_of_answered (st : StationState) :
    (if st = .unseen ∨ st = .lapsed then StationState.present else st) = .muted ↔ st = .muted := by
  cases st <;> decide

/-- A strike of a record that the answer left (R67). -/
theorem judgeStrike_answered {p : Report} (h : p.outcome = .collided ∨ p.outcome = .excess) (limit : Nat) (r : Station)
    (cause : Option StationCause) :
    judgeStrike limit p (r, cause) =
      if limit ≤ min 7 (r.strikeCount + 1) ∧ r.state ≠ .muted then
        ({ r with strikeCount := min 7 (r.strikeCount + 1), state := .muted, muteCause := some .strikes },
          some .strikes)
      else ({ r with strikeCount := min 7 (r.strikeCount + 1) }, cause) := by
  simp only [judgeStrike, Bool.or_eq_true, beq_iff_eq, if_pos h, Bool.and_eq_true, decide_eq_true_eq, bne_iff_ne, ne_eq]
  rfl

/-- Settles O31, outcome by outcome, in the order in which a report is applied. -/
theorem reportJudgesByOutcome : Obligations.ReportJudgesByOutcome := by
  intro h p r answered cause clean struck
  obtain ⟨outcome, round, badFrames, foreignFrames⟩ := p
  refine ⟨?_, ?_, ?_, ?_, ?_, ?_, ?_⟩ <;> rintro rfl
  · rw [judge, judgeAnswer_eq rfl, judgeMiss_of_ne (by simp), judgeStrike_of_ne (by simp), judgeOverrun_of_ne (by simp),
      judgeRun_of_clean rfl]
    rfl
  · rw [judge, judgeAnswer_eq rfl, judgeMiss_of_ne (by simp), judgeStrike_of_ne (by simp), judgeOverrun_of_ne (by simp)]
    by_cases hclean : badFrames = 0 ∧ foreignFrames = 0
    · rw [judgeRun_of_clean (by simpa [Report.isClean] using hclean), if_pos hclean]
      rfl
    · rw [judgeRun_of_not_clean (by simpa [Report.isClean] using hclean), if_neg hclean]
      rfl
  · rw [judge, judgeAnswer_of_no_answer rfl, judgeStrike_of_ne (by simp), judgeOverrun_of_ne (by simp),
      judgeRun_of_not_clean rfl]
    simp only [judgeMiss_missed, StationCounters.outcome]
    split <;> rfl
  · rw [judge, judgeAnswer_of_no_answer rfl, judgeMiss_of_ne (by simp), judgeStrike_of_ne (by simp),
      judgeOverrun_of_ne (by simp), judgeRun_of_not_clean rfl]
    rfl
  · rw [judge, judgeAnswer_eq rfl, judgeMiss_of_ne (by simp), judgeStrike_answered (.inl rfl),
      judgeOverrun_of_ne (by simp), judgeRun_of_not_clean rfl]
    simp only [ne_eq, muted_of_answered]
    split <;> rename_i hmutes
    · exact (if_pos hmutes).symm
    · exact (if_neg hmutes).symm
  · rw [judge, judgeAnswer_eq rfl, judgeMiss_of_ne (by simp), judgeStrike_answered (.inr rfl),
      judgeOverrun_of_ne (by simp), judgeRun_of_not_clean rfl]
    simp only [ne_eq, muted_of_answered]
    split <;> rename_i hmutes
    · exact (if_pos hmutes).symm
    · exact (if_neg hmutes).symm
  · rw [judge, judgeAnswer_eq rfl, judgeMiss_of_ne (by simp), judgeStrike_of_ne (by simp), judgeRun_of_not_clean rfl]
    rfl

end Sys2Proof.Machine
end

section
/-! PROOFS. A new session and its place (R161, R162), and an answer to a trunk origin (R166): the statements O21 and
O22. -/

namespace Sys2Proof.Machine

open Sys2Proof.Safety

/-! ### The record given up (R162) -/

/-- Of records, the one idle longest, the earliest of equals, with those before and after it. -/
theorem foldl_longerIdle (now : Nat) (l : List Session) (b : Session) :
    ∃ before v after, b :: l = before ++ v :: after ∧ l.foldl (longerIdle now) (some b) = some v ∧
      (∀ w ∈ before, w.idleSeconds now < v.idleSeconds now) ∧
      ∀ w ∈ after, w.idleSeconds now ≤ v.idleSeconds now := by
  induction l generalizing b with
  | nil => exact ⟨[], b, [], rfl, rfl, by simp, by simp⟩
  | cons x rest ih =>
    by_cases hlonger : b.idleSeconds now < x.idleSeconds now
    · obtain ⟨before, v, after, heq, hfold, hbefore, hafter⟩ := ih x
      refine ⟨b :: before, v, after, by rw [heq, List.cons_append], by simpa [longerIdle, hlonger] using hfold, ?_, hafter⟩
      have hx : x.idleSeconds now ≤ v.idleSeconds now := by
        have hmem : x ∈ before ++ v :: after := heq ▸ List.mem_cons_self
        rcases List.mem_append.mp hmem with hin | hin
        · exact (hbefore x hin).le
        · rcases List.mem_cons.mp hin with rfl | hin
          · exact le_rfl
          · exact hafter x hin
      intro w hw
      rcases List.mem_cons.mp hw with rfl | hw
      · exact hlonger.trans_le hx
      · exact hbefore w hw
    · obtain ⟨before, v, after, heq, hfold, hbefore, hafter⟩ := ih b
      have hfold' : (x :: rest).foldl (longerIdle now) (some b) = some v := by
        simpa [longerIdle, hlonger] using hfold
      cases before with
      | nil =>
        obtain ⟨rfl, rfl⟩ : b = v ∧ rest = after := by simpa using heq
        refine ⟨[], b, x :: rest, rfl, hfold', by simp, fun w hw => ?_⟩
        rcases List.mem_cons.mp hw with rfl | hw
        · exact Nat.not_lt.mp hlonger
        · exact hafter w hw
      | cons y before =>
        obtain ⟨rfl, rfl⟩ : b = y ∧ rest = before ++ v :: after := by simpa using heq
        refine ⟨b :: x :: before, v, after, rfl, hfold', fun w hw => ?_, hafter⟩
        have hb : b.idleSeconds now < v.idleSeconds now := hbefore b List.mem_cons_self
        rcases List.mem_cons.mp hw with rfl | hw
        · exact hb
        · rcases List.mem_cons.mp hw with rfl | hw
          · exact (Nat.not_lt.mp hlonger).trans_lt hb
          · exact hbefore w (List.mem_cons_of_mem b hw)

/-- The victim of a table, among the records around it (R162). -/
theorem victim_around {now : Nat} {a : Agent} {v : Session} (h : a.victim now = some v) :
    ∃ before after, a.sessions = before ++ v :: after ∧ a.holds v.address v.tag = false ∧
      (∀ w ∈ before, a.holds w.address w.tag = false → w.idleSeconds now < v.idleSeconds now) ∧
      ∀ w ∈ after, a.holds w.address w.tag = false → w.idleSeconds now ≤ v.idleSeconds now := by
  unfold Agent.victim at h
  cases hfree : a.sessions.filter fun x => !a.holds x.address x.tag with
  | nil =>
    rw [hfree] at h
    cases h
  | cons b rest =>
    rw [hfree] at h
    obtain ⟨before, v', after, heq, hfold, hbefore, hafter⟩ := foldl_longerIdle now rest b
    obtain rfl : v' = v := by
      change rest.foldl (longerIdle now) (some b) = some v at h
      exact Option.some.inj (hfold.symm.trans h)
    rw [heq] at hfree
    obtain ⟨l₁, l₂, hsessions, hl₁, hl₂⟩ := List.filter_eq_append_iff.mp hfree
    obtain ⟨m₁, m₂, hm, hspared, hv, hm₂⟩ := List.filter_eq_cons_iff.mp hl₂
    refine ⟨l₁ ++ m₁, m₂, by rw [hsessions, hm, List.append_assoc], by simpa using hv, fun w hw hfreew => ?_,
      fun w hw hfreew => ?_⟩
    · rcases List.mem_append.mp hw with hw | hw
      · exact hbefore w (hl₁ ▸ List.mem_filter.mpr ⟨hw, by simpa using hfreew⟩)
      · exact absurd (by simpa using hfreew) (hspared w hw)
    · exact hafter w (hm₂ ▸ List.mem_filter.mpr ⟨hw, by simpa using hfreew⟩)

/-- A record leaves a table of distinct keys alone (R160). -/
theorem filter_key_of_distinct {before after : List Session} {v : Session}
    (h : ((before ++ v :: after).map Session.key).Nodup) :
    (before ++ v :: after).filter (fun x => !x.hasKey v.address v.tag) = before ++ after := by
  have hkey : ∀ x : Session, x.hasKey v.address v.tag = true ↔ x.key = v.key := fun x => by
    simp [Session.key]
  have hkeep : ∀ l : List Session, (∀ x ∈ l, x.key ≠ v.key) → l.filter (fun x => !x.hasKey v.address v.tag) = l :=
    fun l hl => List.filter_eq_self.mpr fun x hx => by
      rw [Bool.eq_false_iff.mpr (mt (hkey x).mp (hl x hx))]
      rfl
  simp only [List.map_append, List.map_cons, List.nodup_append', List.nodup_cons, List.disjoint_cons_right] at h
  obtain ⟨-, ⟨hafter, -⟩, hbefore, -⟩ := h
  rw [List.filter_append, List.filter_cons_of_neg (by simp), hkeep before fun x hx heq =>
    hbefore (heq ▸ List.mem_map_of_mem hx), hkeep after fun x hx heq => hafter (heq ▸ List.mem_map_of_mem hx)]

/-! ### An answer leaves the session table (R163) -/

theorem answerCounters_state_of_no_clear {q : Request} {s : State} (h : numAt q.body 2 = 0) :
    (answerCounters q s).state = s := by
  simp only [answerCounters, h, Nat.reduceBEq, Bool.false_eq_true, if_false]
  (repeat' split) <;> rfl

/-- The store of an answer leaves every session's key (R163). -/
theorem storeAndRoute_keys (row : RequestRow) (q : Request) (a : Answer) :
    (State.storeAndRoute row q a).agent.sessions.map Session.key = a.state.agent.sessions.map Session.key := by
  have hkeys := keys_onSession q.src q.tag (f := fun x =>
    { x with last := some (q.seq, a.state.responseFrame q a.status a.body) }) (fun _ => rfl)
    (a.state.countRefused a.status).agent
  rw [countRefused_agent] at hkeys
  unfold State.storeAndRoute State.route
  split
  · simpa [countRefused_agent] using hkeys
  · dsimp only
    split <;> simpa [State.countAgent, countRefused_agent] using hkeys

theorem openSession_keys (now : Nat) (q : Request) (a : Agent) :
    (a.openSession now q).sessions.map Session.key = (a.makeRoom now).sessions.map Session.key ++ [(q.src, q.tag)] := by
  simp [Agent.openSession, Session.key]

/-- What a command answers to a session that does not hold the lease leaves the sessions and their evictions. -/
theorem settle_sessions {c : Instr} {row : RequestRow} {q : Request} {s : State} (hrow : rowOf c = some row)
    (hread : (∃ d, c = .readCounters d) → numAt q.body 2 = 0) (hfree : s.agent.holds q.src q.tag = false) :
    (row.settle q s).state.agent.sessions = s.agent.sessions ∧
      (row.settle q s).state.agent.counters = s.agent.counters := by
  have hwrite : row.permission = .write → (row.settle q s).state = s := fun hp => by
    have hrefused : ∃ st, permissionRefusal row.permission q s.agent = some st := by
      rw [hp]
      by_cases hup : q.origin = .uplink <;> simp [permissionRefusal, hup, hfree]
    obtain ⟨st, hst⟩ := hrefused
    rw [settle_refused hst]
  have hsettle : (row.settle q s).state = s ∨ (row.settle q s).state = (row.answer q s).state := by
    unfold RequestRow.settle
    (repeat' split) <;> simp [refuse]
  by_cases hp : row.permission = .write
  · rw [hwrite hp]
    exact ⟨rfl, rfl⟩
  rcases hsettle with hs | hs
  · rw [hs]
    exact ⟨rfl, rfl⟩
  rw [hs]
  cases c <;> simp only [rowOf, Option.some.injEq, reduceCtorEq] at hrow <;> subst hrow
  case identify | readTrunk | readQueues | readNotices => exact ⟨rfl, rfl⟩
  case readRound => rw [show rowReadRound.answer = answerReadRound from rfl, answerReadRound_state]; exact ⟨rfl, rfl⟩
  case readStations =>
    rw [show rowReadStations.answer = answerReadStations from rfl, answerReadStations_state]
    exact ⟨rfl, rfl⟩
  case readRules =>
    rw [show rowReadRules.answer = answerReadRules from rfl, answerReadRules_state]
    exact ⟨rfl, rfl⟩
  case readCounters d =>
    rw [show rowReadCounters.answer = answerCounters from rfl, answerCounters_state_of_no_clear (hread ⟨d, rfl⟩)]
    exact ⟨rfl, rfl⟩
  case claim =>
    simp only [rowClaim, answerClaim, grantLease]
    (repeat' split) <;> simp [refuseRange, refuse, okWith]
  case release => simp [rowRelease, answerRelease, hfree, refuse]
  case ackNotices => simp [rowAckNotices]
  all_goals exact absurd rfl hp

/-- Settles O21: the session is made at step 3, where a full table gives up its victim; what the request is then answered
leaves the table, and the store of the answer leaves the keys. -/
theorem evictionSparesTheHolder : Obligations.EvictionSparesTheHolder := by
  intro c dt k s e body hrequests htaken henv hnone hlaw key idle spared
  obtain ⟨code, row, hrequest, hrow, hcarries, hspells, hnames, hexec⟩ := takes_of_requests hrequests
  have hlaw' : s.agent.SessionsHold := (sessionLaw_iff s).mp hlaw
  have ⟨hreset, _, _, _⟩ := htaken
  have hfirst : FirstAsked s e := fun x hx => by
    rw [hnone] at hx
    cases hx
  have htake := takeRequest_judged (s := s.pass dt) htaken henv hfirst (takes_of_names hnames)
  have hfree : s.agent.holds (frameSrc e.bytes) (envTag e.bytes) = false := by
    rw [Bool.eq_false_iff, ne_eq, holds_iff]
    rintro ⟨l, hl, haddress, htag⟩
    obtain ⟨x, hx, hxaddress, hxtag⟩ := hlaw.2.2 l hl
    refine List.find?_eq_none.mp hnone x hx ?_
    simp [hxaddress, hxtag, haddress, htag]
  obtain ⟨-, -, -, -, rholds, -⟩ := ready_agent e (s.pass dt)
  have hfree' : ((s.pass dt).ready e).agent.holds e.request.src e.request.tag = false := (rholds _ _).trans hfree
  have hreadFlag : (∃ d, c = .readCounters d) → numAt e.request.body 2 = 0 := by
    rintro ⟨d, rfl⟩
    rw [Requests_body hcarries]
    simp only [bodySpells, Bool.and_eq_true, beq_iff_eq] at hspells
    exact hspells.2
  have hlength : code = codeReadCounters → 3 ≤ body.length := by
    rintro rfl
    exact three_le_of_spells hrequest hspells
  obtain ⟨hsessions, hcounters⟩ := settle_sessions (s := (s.pass dt).ready e) hrow hreadFlag hfree'
  rw [judge_settles hcarries (requestCodes_contains hrequest) hlength] at htake
  refine ⟨_, (hexec s).trans (takeEvent_eq (s := s.pass dt) hreset), ?_⟩
  rw [(arbitrate_frame _).2.2.2.2.2.2.2.2.2.2.1, htake]
  have hkeys : ∀ l : List Session, l.map key = l.map Session.key := fun _ => rfl
  rw [hkeys, storeAndRoute_keys, storeAndRoute_evicted, hsessions, hcounters]
  have hready : ((s.pass dt).ready e).agent = (s.pass dt).removeTaken.agent.openSession (s.now + dt) e.request := by
    have hnone' : sessionOf (s.pass dt) e = none := hnone
    rw [State.ready, hnone']
    rfl
  rw [hready, openSession_keys]
  refine ⟨fun hroom => ?_, fun hfull => ?_⟩
  · have hstays : (s.pass dt).removeTaken.agent.makeRoom (s.now + dt) = (s.pass dt).removeTaken.agent := if_pos hroom
    rw [hstays, (openSession_fields _ _ _).2.2.2.2, hstays]
    exact ⟨rfl, rfl⟩
  · obtain ⟨v, hv, -, -⟩ := exists_victim (a := (s.pass dt).removeTaken.agent) (hlaw'.of_eq rfl rfl) hfull.ge (s.now + dt)
    obtain ⟨before, after, hsplit, hvfree, hbefore, hafter⟩ := victim_around hv
    have hsplit' : s.agent.sessions = before ++ v :: after := hsplit
    have hroom : (s.pass dt).removeTaken.agent.makeRoom (s.now + dt) =
        { (s.pass dt).removeTaken.agent with
          sessions := before ++ after
          counters := { (s.pass dt).removeTaken.agent.counters with
            sessionsEvicted := s.agent.counters.sessionsEvicted + 1 } } := by
      have hfull' : ¬ (s.pass dt).removeTaken.agent.sessions.length < Config.sessionPlaces := Nat.not_lt.mpr hfull.ge
      rw [Agent.makeRoom, if_neg hfull', hv]
      simp only [hsplit, filter_key_of_distinct (hsplit' ▸ hlaw'.distinct)]
      rfl
    refine ⟨before, v, after, hsplit', ?_, fun w hw hspared => hbefore w hw (Bool.eq_false_iff.mpr hspared),
      fun w hw hspared => hafter w hw (Bool.eq_false_iff.mpr hspared), ?_, ?_⟩
    · exact Bool.eq_false_iff.mp hvfree
    · rw [hroom]
      rfl
    · rw [(openSession_fields _ _ _).2.2.2.2, hroom]

/-! ### The answer to a trunk origin (R166) -/

theorem wholeBytes_length (n : Nat) (bits : List Bool) (h : n * 8 ≤ bits.length) : (wholeBytes n bits).length = n := by
  induction n generalizing bits with
  | zero => rfl
  | succ n ih =>
    have hlong : ¬ bits.length < 8 := by omega
    rw [wholeBytes, if_neg hlong, List.length_cons, ih _ (by rw [List.length_drop]; omega)]

theorem fcsBytes_length (l : List Byte) : (fcsBytes l).length = 4 := by
  rw [fcsBytes, bytesOfBits, wholeBytes_length _ _ (by simp)]
  simp

/-- A management frame of a short body is padded to 64 bytes, which take one cell (R118, R154). -/
theorem cellsOf_buildFrame {dst src : Addr} {kind code status : Byte} {tag seq : BitVec 16} {body : List Byte}
    (h : body.length ≤ 36) : cellsOf (buildFrame dst src kind tag seq code status body).length = 1 := by
  have hlength : (buildFrame dst src kind tag seq code status body).length = 64 := by
    simp [buildFrame, addrBytes, bytes2, fcsBytes_length]
    omega
  rw [hlength]
  rfl

theorem enqueueFails_dx_eq_none_iff (c : Nat) (s : State) :
    enqueueFails .dx c s = none ↔ s.queues.dx.frames.length + 1 ≤ s.queues.dx.frameLimit
      ∧ cellSum s.queues.dx.frames + c ≤ s.queues.dx.cellLimit ∧ c ≤ s.queues.free := by
  constructor
  · intro h
    obtain ⟨hframes, hcells, -⟩ := room_of_enqueue h
    exact ⟨hframes, hcells, cells_le_free_of_enqueue h⟩
  · rintro ⟨hframes, hcells, hfree⟩
    rw [enqueueFails]
    exact (if_neg (by simp)).trans ((if_neg (Nat.not_lt.mpr hframes)).trans
      ((if_neg (Nat.not_lt.mpr hcells)).trans (if_neg (Nat.not_lt.mpr hfree))))

/-- A dropped frame leaves every queue's frames and the free cells (R125). -/
theorem dropAtEnqueue_dx (c : Nat) (reason : DropReason) (s : State) :
    (s.dropAtEnqueue .dx c reason).queues.dx.frames = s.queues.dx.frames ∧
      (s.dropAtEnqueue .dx c reason).queues.free = s.queues.free := by
  unfold State.dropAtEnqueue
  dsimp only
  split <;> simp [Queues.on, Queue.count]

theorem takeUp_dx (qs : Queues) : qs.takeUp.dx = qs.dx ∧ qs.takeUp.free = qs.free := by
  unfold Queues.takeUp
  split <;> exact ⟨rfl, rfl⟩

/-- The arbiter leaves DX and the free cells (R130). -/
theorem arbitrate_dx (s : State) :
    s.arbitrate.queues.dx = s.queues.dx ∧ s.arbitrate.queues.free = s.queues.free := by
  unfold State.arbitrate State.arbiterTake
  (repeat' split) <;> simp [State.startUplink, takeUp_dx]

/-- A response that the agent enqueues on DX outside FLOOR (R124, R166). -/
theorem route_trunk_dx {n : Nat} {bytes : List Byte} {s : State} (hcells : (agentFrame bytes).cells = 1)
    (hphase : s.engine.phase ≠ some .floor) :
    let t := s.route (.trunk n) bytes false
    let fits := s.queues.dx.frames.length + 1 ≤ s.queues.dx.frameLimit
      ∧ cellSum s.queues.dx.frames + 1 ≤ s.queues.dx.cellLimit ∧ 1 ≤ s.queues.free
    (fits → t.queues.dx.frames = s.queues.dx.frames ++ [agentFrame bytes]
      ∧ t.queues.dx.counters.enqueued = s.queues.dx.counters.enqueued + 1 ∧ t.queues.free = s.queues.free - 1
      ∧ t.agent.counters.responsesDropped = s.agent.counters.responsesDropped)
    ∧ (¬ fits → t.queues.dx.frames = s.queues.dx.frames ∧ t.queues.free = s.queues.free
      ∧ t.agent.counters.responsesDropped = s.agent.counters.responsesDropped + 1) := by
  intro t fits
  constructor
  · intro hfits
    have hpasses : enqueueFails .dx (agentFrame bytes).cells s = none := by
      rw [hcells]
      exact (enqueueFails_dx_eq_none_iff 1 s).mpr hfits
    have ht : t = s.onQueues (Queues.join .dx (agentFrame bytes)) := by
      change (if (enqueueFails .dx (agentFrame bytes).cells s).isSome = true then _ else _) = _
      rw [hpasses]
      exact enqueue_of_passes hpasses fun _ _ => hphase
    rw [ht]
    have htail : joinFrames (agentFrame bytes) s.queues.dx.frames = s.queues.dx.frames ++ [agentFrame bytes] := rfl
    simp [Queues.join, Queues.on, htail, hcells]
  · intro hfull
    obtain ⟨reason, hreason⟩ := Option.ne_none_iff_exists'.mp
      (mt (enqueueFails_dx_eq_none_iff 1 s).mp hfull)
    rw [← hcells] at hreason
    have ht : t = (s.dropAtEnqueue .dx (agentFrame bytes).cells reason).countAgent fun c =>
        { c with responsesDropped := c.responsesDropped + 1 } := by
      change (if (enqueueFails .dx (agentFrame bytes).cells s).isSome = true then _ else _) = _
      rw [hreason, enqueue_of_fails hreason]
      rfl
    obtain ⟨hframes, hfree⟩ := dropAtEnqueue_dx (agentFrame bytes).cells reason s
    rw [ht]
    simpa [State.countAgent] using ⟨hframes, hfree⟩

/-- Settles O22: the answer is stored in the session, which leaves the queues, and then enqueued on DX. -/
theorem trunkAnswerGoesToDX : Obligations.TrunkAnswerGoesToDX := by
  intro dt s e n h horigin hphase
  have ⟨htaken, henv, hfirst, hcarries⟩ := h
  have ⟨hreset, _, _, _⟩ := htaken
  have hnames := names_of_carries (row := rowIdentify) rfl hcarries
  have hsettle : rowIdentify.settle e.request ((s.pass dt).ready e) = answerIdentify e.request ((s.pass dt).ready e) :=
    settle_allowed rfl (by rw [Requests_body hcarries]; rfl)
  rw [answerIdentify_eq] at hsettle
  obtain ⟨t, hstep, hans, -, -⟩ := request_read h hnames (by decide) (by simp [codeReadCounters]) rfl hsettle
  have hlength : ∀ (i : Identity) (link : Bool), (identifyItems i link).length = 32 := fun i link => by
    simp [identifyItems, addrBytes, bytes4]
  refine ⟨t, _, hstep, hans, hlength _ _, ?_⟩
  have htake := takeRequest_judged (s := s.pass dt) htaken henv hfirst (takes_of_names hnames)
  rw [(judge_settles hcarries (by decide) (by simp [codeReadCounters]) _).trans hsettle] at htake
  obtain rfl : ((s.pass dt).takeRequest rowIdentify).arbitrate = t := by
    have hevent := takeEvent_eq (s := s.pass dt) (f := State.takeRequest rowIdentify) hreset
    exact Host.Outcome.next.inj (hevent.symm.trans hstep)
  obtain ⟨hdx, hfree⟩ := arbitrate_dx ((s.pass dt).takeRequest rowIdentify)
  set body := identifyItems ((s.pass dt).ready e).identity ((s.pass dt).ready e).uplink.link with hbody
  have hcells : (agentFrame (responseTo s e 0x00 body)).cells = 1 := by
    refine cellsOf_buildFrame ?_
    rw [hbody, hlength]
    decide
  have hbytes : ((s.pass dt).ready e).responseFrame e.request .ok body = responseTo s e 0x00 body := by
    simp only [State.responseFrame, ready_frame, pass_identity]
    rfl
  have hstored : State.storeAndRoute rowIdentify e.request (okWith body ((s.pass dt).ready e))
      = ((((s.pass dt).ready e).onAgent (Agent.onSession e.request.src e.request.tag fun x =>
          { x with last := some (e.request.seq, responseTo s e 0x00 body) })).onAgent
            fun g => { g with softReset := g.softReset || false }).route (.trunk n) (responseTo s e 0x00 body) false := by
    rw [← hbytes, ← horigin]
    rfl
  rw [hdx, hfree, (arbitrate_frame _).2.2.2.2.2.2.2.2.2.2.1, htake, hstored]
  obtain ⟨-, -, -, -, -, -, hdropped⟩ := ready_agent e (s.pass dt)
  simpa [hdropped, agentFrame] using route_trunk_dx (n := n) (s := (((s.pass dt).ready e).onAgent
    (Agent.onSession e.request.src e.request.tag fun x =>
      { x with last := some (e.request.seq, responseTo s e 0x00 body) })).onAgent
        fun g => { g with softReset := g.softReset || false }) hcells (by simpa using hphase)

end Sys2Proof.Machine
end

section
/-! PROOFS. The requests of the lease holder on the trunk, the queues and the notice list (R25, R27, R135, R136, R190):
the statements O23, O27 and O28. -/

namespace Sys2Proof.Machine

open Sys2Proof.Safety

/-! ### A holder's request, by its block's answer -/

/-- The part is as its block left it, but for what a take adds to the agent and to the output list. -/
structure HolderAnswer (row : RequestRow) (dt : Nat) (s t : State) (e : InputEntry) : Prop where
  frame : RequestFrame dt s t e
  answered : Answered s t e (blockAnswer row dt s e).status.code (blockAnswer row dt s e).body
  store : t.store = (blockAnswer row dt s e).state.store
  engine : t.engine = (blockAnswer row dt s e).state.engine
  line : t.line = (blockAnswer row dt s e).state.line
  led : t.led = (blockAnswer row dt s e).state.led
  trunkCounters : t.trunkCounters = (blockAnswer row dt s e).state.trunkCounters
  stations : t.stations = (blockAnswer row dt s e).state.stations
  admission : t.admission = (blockAnswer row dt s e).state.admission
  queues : t.queues = (blockAnswer row dt s e).state.queues
  notices : t.notices = (blockAnswer row dt s e).state.notices
  stamps : t.stamps = (blockAnswer row dt s e).state.stamps
  identity : t.identity = s.identity

/-- A block's answer leaves the agent, the identity, the clock, the ports, the reset and the queue of commands. -/
def KeepsPorts (s t : State) : Prop :=
  t.agent = s.agent ∧ t.identity = s.identity ∧ t.now = s.now ∧ t.pending = s.pending ∧ t.resetRun = s.resetRun
  ∧ t.pins = s.pins ∧ t.uplink = s.uplink

/-- An asked request of the lease holder, as an event (R158, R168). -/
theorem holder_asks {row : RequestRow} {dt : Nat} {s : State} {e : InputEntry} {code : Byte} {body : List Byte}
    (h : Asked s e code body) (hf : FromHolder s e) (hn : row.names e.bytes = true)
    (hc : requestCodes.contains code = true) (hl : code ≠ codeReadCounters) (hr : row.resets = false)
    (hfit : row.fits body = true) (hk : ∀ q r, KeepsPorts r (row.answer q r).state) :
    ∃ t, takeRequestEvent row dt s = .next t ∧ HolderAnswer row dt s t e := by
  obtain ⟨hagent, hidentity, hnow, hpending, hreset, hpins, huplink⟩ := hk e.request ((s.pass dt).ready e)
  obtain ⟨t, hstep, hframe, hans, -, tstore, tengine, tline, tled, ttrunk, tstations, tadmission, tqueues, tnotices,
    tstamps, tidentity⟩ := request_holder (dt := dt) h hf hn hc (fun hcode => absurd hcode hl) hr hfit _ rfl hagent
      (by simp [hidentity]) (by simp [hnow]) (by simp [hpending]) (by simp [hreset]) (by simp [hpins]) (by simp [huplink])
  exact ⟨t, hstep, hframe, hans, tstore, tengine, tline, tled, ttrunk, tstations, tadmission, tqueues, tnotices, tstamps,
    tidentity⟩

section
variable {row : RequestRow} {dt : Nat} {s t r : State} {e : InputEntry} {st : Status} {body : List Byte}

theorem HolderAnswer.answered_of (h : HolderAnswer row dt s t e) (ha : blockAnswer row dt s e = ⟨st, body, r⟩) :
    Answered s t e st.code body := by
  have hans := h.answered
  rwa [ha] at hans

end

/-! ### START_TRUNK and STOP_TRUNK (R25, R27) -/

/-- A stop at once makes a marker's transmission end and enters STOPPED (R27, R84). -/
theorem stopNow_eq (s : State) : s.stopNow = stoppedFrom (if s.line.tx.isSome then quieted false s else s) := by
  rw [State.stopNow, enterStopped_eq]
  rfl

/-- What a stop at once leaves of every block, whichever agent and moment it finds. -/
theorem stopNow_blocks (s : State) :
    s.stopNow.engine = (stoppedFrom s).engine ∧ s.stopNow.led = {} ∧ s.stopNow.store = (stoppedFrom s).store ∧
      s.stopNow.notices = (stoppedFrom s).notices ∧
      s.stopNow.line = if s.line.tx = none then s.line
        else { s.line with tx := none, echo := some { ends := s.now + 80, cut := false, colRose := false } } := by
  rw [stopNow_eq]
  cases htx : s.line.tx <;> simp [quieted, stoppedFrom]

theorem inFlight_iff (s : State) :
    inFlight s = true ↔ s.engine.phase = some .awaiting ∨ s.engine.phase = some .receiving
      ∨ s.engine.phase = some .continuing ∨ s.engine.phase = some .closing
      ∨ ((s.engine.phase = some .sending ∨ s.engine.phase = some .floor) ∧ s.line.tx ≠ none) := by
  have hsome : s.line.tx.isSome = true ↔ s.line.tx ≠ none := Option.isSome_iff_ne_none
  unfold inFlight
  split <;> rename_i hphase <;> simp_all

theorem answerStartTrunk_eq (q : Request) (r : State) :
    answerStartTrunk q r =
      if r.engine.trunk ≠ .stopped then refuse .wrongState [] r
      else if r.store.active.entries = [] then refuse .noTable [] r
      else okWith [0x01] ((r.onEngine fun e => { e with quietFrom := some r.now }).enterTrunk .starting) := by
  simp only [answerStartTrunk, bne_iff_ne, List.isEmpty_iff]
  rfl

/-- Settles O23, by the trunk state and the phase, which are those of the event. -/
theorem startAndStopTrunk : Obligations.StartAndStopTrunk := by
  constructor
  · intro dt s e h hf
    obtain ⟨t, hstep, ha⟩ := holder_asks (row := rowStartTrunk) (dt := dt) h hf (names_of_carries rfl h.2.2.2) (by decide)
      (by decide) rfl rfl fun q r => by simp [KeepsPorts, rowStartTrunk]
    have hblock : blockAnswer rowStartTrunk dt s e = answerStartTrunk e.request ((s.pass dt).ready e) := rfl
    refine ⟨t, hstep, ha.frame, ⟨by simp [ha.stamps, hblock], ha.identity⟩, by simp [ha.store, hblock],
      by simp [ha.stations, hblock], by simp [ha.admission, hblock], by simp [ha.trunkCounters, hblock],
      ⟨by simp [ha.queues, hblock], by simp [ha.line, hblock], by simp [ha.notices, hblock]⟩, ?_⟩
    simp only [answerStartTrunk_eq, ready_frame, pass_engine, pass_store, pass_now] at hblock
    by_cases hstopped : s.engine.trunk ≠ .stopped
    · rw [if_pos hstopped] at hblock
      rw [if_pos hstopped]
      have hans := ha.answered_of hblock
      exact ⟨hans, by simp [ha.engine, hblock, refuse], by simp [ha.led, hblock, refuse]⟩
    rw [if_neg hstopped] at hblock
    rw [if_neg hstopped]
    by_cases hempty : s.store.active.entries = []
    · rw [if_pos hempty] at hblock
      rw [if_pos hempty]
      have hans := ha.answered_of hblock
      exact ⟨hans, by simp [ha.engine, hblock, refuse], by simp [ha.led, hblock, refuse]⟩
    · rw [if_neg hempty] at hblock
      rw [if_neg hempty]
      have hans := ha.answered_of hblock
      refine ⟨hans, by simp [ha.engine, hblock, okWith], ?_⟩
      simp [ha.led, hblock, okWith, ledAtEntry, flashStretch, slowFlash, millisecond]
  · intro dt s e h hf flying now
    obtain ⟨t, hstep, ha⟩ := holder_asks (row := rowStopTrunk) (dt := dt) h hf (names_of_carries rfl h.2.2.2) (by decide)
      (by decide) rfl rfl fun q r => by simp [KeepsPorts, rowStopTrunk]
    have hblock : blockAnswer rowStopTrunk dt s e = answerStopTrunk e.request ((s.pass dt).ready e) := rfl
    have hflying : inFlight ((s.pass dt).ready e) = true ↔ flying := by
      rw [inFlight_iff, (ready_frame e _).2.2.2.2.2.1, (ready_frame e _).2.2.2.2.2.2.1]
      rfl
    have htrunk : ((s.pass dt).ready e).engine.trunk = s.engine.trunk := by simp
    have hstays : s.engine.trunk = .stopping ∨ s.engine.trunk = .stopped →
        ((s.pass dt).ready e).stopTrunk = (s.pass dt).ready e := by
      rintro (hs | hs) <;> simp [State.stopTrunk, hs]
    have hstops : s.engine.trunk = .starting ∨ s.engine.trunk = .blocked ∨ (s.engine.trunk = .running ∧ ¬ flying) →
        ((s.pass dt).ready e).stopTrunk = ((s.pass dt).ready e).stopNow := by
      rintro (hs | hs | ⟨hs, hno⟩)
      · simp [State.stopTrunk, hs]
      · simp [State.stopTrunk, hs]
      · simp [State.stopTrunk, hs, mt hflying.mp hno]
    refine ⟨t, hstep, ha.frame, ⟨by simp [ha.stamps, hblock], ha.identity⟩,
      by simp [ha.stations, hblock], by simp [ha.admission, hblock], by simp [ha.trunkCounters, hblock],
      by simp [ha.queues, hblock], fun hs => ?_, fun hs => ?_, fun hs hfly => ?_, fun hs => ?_⟩
    · rw [answerStopTrunk, hstays (.inl hs), htrunk, hs] at hblock
      have hans := ha.answered_of hblock
      exact ⟨hans, ⟨by simp [ha.engine, hblock, okWith], by simp [ha.line, hblock, okWith],
        by simp [ha.led, hblock, okWith], by simp [ha.trunkCounters, hblock, okWith]⟩, by simp [ha.store, hblock, okWith],
        by simp [ha.notices, hblock, okWith]⟩
    · rw [answerStopTrunk, hstays (.inr hs), htrunk, hs] at hblock
      have hans := ha.answered_of hblock
      exact ⟨hans, ⟨by simp [ha.engine, hblock, okWith], by simp [ha.line, hblock, okWith],
        by simp [ha.led, hblock, okWith], by simp [ha.trunkCounters, hblock, okWith]⟩, by simp [ha.store, hblock, okWith],
        by simp [ha.notices, hblock, okWith]⟩
    · have hstopping : ((s.pass dt).ready e).stopTrunk = ((s.pass dt).ready e).enterTrunk .stopping := by
        simp [State.stopTrunk, hs, hflying.mpr hfly]
      rw [answerStopTrunk, hstopping] at hblock
      have hans := ha.answered_of hblock
      refine ⟨hans, by simp [ha.engine, hblock, okWith], ?_, by simp [ha.line, hblock, okWith],
        by simp [ha.store, hblock, okWith], by simp [ha.notices, hblock, okWith]⟩
      simp [ha.led, hblock, okWith, ledAtEntry, flashStretch, slowFlash, millisecond, now]
    · obtain ⟨bengine, bled, bstore, bnotices, bline⟩ := stopNow_blocks ((s.pass dt).ready e)
      have hzero : ((s.pass dt).ready e).stopNow.engine.trunk.code = 0x00 := by rw [bengine]; rfl
      rw [answerStopTrunk, hstops hs, hzero] at hblock
      have hans := ha.answered_of hblock
      refine ⟨hans, ?_, ?_, ?_, ?_, ?_⟩
      · simp [ha.engine, hblock, okWith, bengine, stoppedFrom]
      · simp [ha.led, hblock, okWith, bled]
      · simp [ha.store, hblock, okWith, bstore, stoppedFrom]
      · simp [ha.notices, hblock, okWith, bnotices, stoppedFrom]
      · simp [ha.line, hblock, okWith, bline, now]

/-! ### SET_QUEUE_LIMITS and FLUSH_QUEUE (R135, R136) -/

theorem queueOfCode_code (name : QueueName) : queueOfCode name.code.toNat = some name := by cases name <;> rfl

theorem queueOfCode_of_lt {n : Nat} (h : 2 < n) : queueOfCode n = none := by
  match n, h with
  | n + 3, _ => rfl

/-- A word's two bytes, told again (R207). -/
theorem bytes2_of_bytes (hi lo : Byte) : bytes2 (256 * hi.toNat + lo.toNat) = [hi, lo] := by
  have hlo := lo.isLt
  have hdiv : (256 * hi.toNat + lo.toNat) / 256 = hi.toNat := by omega
  have hmod : byteOf (256 * hi.toNat + lo.toNat) = lo := by
    refine BitVec.eq_of_toNat_eq ?_
    rw [byteOf, BitVec.toNat_ofNat]
    omega
  rw [bytes2, hdiv, hmod, byteOf_toNat]

/-- SET_QUEUE_LIMITS of a queue, with its limits and its occupancy. -/
theorem answerSetQueueLimits_eq {q : Request} {fh fl ch cl : Byte} (name : QueueName)
    (hbody : q.body = [name.code, fh, fl, ch, cl]) (r : State) :
    answerSetQueueLimits q r =
      let frames := 256 * fh.toNat + fl.toNat
      let cells := 256 * ch.toNat + cl.toNat
      let queue := r.queues.get name
      let occupancy := bytes2 queue.frames.length ++ bytes2 (cellSum queue.frames)
      if frames < 1 ∨ 256 < frames then refuseRange .frameLimit 0xFF r
      else if cells < 12 ∨ 512 < cells then refuseRange .cellLimit 0xFF r
      else if frames < queue.frames.length ∨ cells < cellSum queue.frames then
        refuse .range ([0x43, 0xFF] ++ occupancy) r
      else okWith ([name.code] ++ [fh, fl, ch, cl] ++ occupancy)
        (r.onQueues (Queues.on name fun x => { x with frameLimit := frames, cellLimit := cells })) := by
  have hcode : numAt q.body 0 = name.code.toNat := by rw [hbody]; rfl
  have hframes : (wordAt q.body 1).toNat = 256 * fh.toNat + fl.toNat := by
    rw [hbody]
    exact toNat_append_bytes fh fl
  have hcells : (wordAt q.body 3).toNat = 256 * ch.toNat + cl.toNat := by
    rw [hbody]
    exact toNat_append_bytes ch cl
  simp only [answerSetQueueLimits, hcode, queueOfCode_code, hframes, hcells, Bool.or_eq_true, decide_eq_true_eq,
    bytes2_of_bytes, Queue.frameCount, Queue.cellCount, RangeItem.code, List.cons_append, List.nil_append]

/-- A flush empties the one queue and counts its frames (R136). -/
theorem get_flush (name other : QueueName) (qs : Queues) :
    (qs.flush name).get other = if other = name then
      { qs.get other with frames := [], counters := { (qs.get other).counters with
        flushed := (qs.get other).counters.flushed + BitVec.ofNat 32 (qs.get other).frames.length } }
      else qs.get other := by
  cases name <;> cases other <;> rfl

/-- Settles O27, by the queue that the code names and the checks in their order. -/
theorem setQueueLimitsAndFlushQueue : Obligations.SetQueueLimitsAndFlushQueue := by
  constructor
  · intro dt s e code fh fl ch cl h hf frames cells
    obtain ⟨t, hstep, ha⟩ := holder_asks (row := rowSetQueueLimits) (dt := dt) h hf (names_of_carries rfl h.2.2.2)
      (by decide) (by decide) rfl rfl fun q r => by simp [KeepsPorts, rowSetQueueLimits]
    have hbody : e.request.body = [code, fh, fl, ch, cl] := Requests_body h.2.2.2
    have hblock : blockAnswer rowSetQueueLimits dt s e = answerSetQueueLimits e.request ((s.pass dt).ready e) := rfl
    refine ⟨t, hstep, ha.frame, ⟨by simp [ha.engine, hblock], by simp [ha.line, hblock], by simp [ha.led, hblock],
      by simp [ha.trunkCounters, hblock]⟩, ⟨by simp [ha.stamps, hblock], ha.identity⟩, by simp [ha.store, hblock],
      by simp [ha.stations, hblock], by simp [ha.admission, hblock], by simp [ha.notices, hblock],
      fun hcode => ?_, ?_⟩
    · have hnumber : numAt e.request.body 0 = code.toNat := by rw [hbody]; rfl
      simp only [answerSetQueueLimits, hnumber, queueOfCode_of_lt hcode] at hblock
      have hans := ha.answered_of hblock
      exact ⟨hans, by simp [ha.queues, hblock, refuseRange, refuse]⟩
    · rintro name rfl q occupancy
      simp only [answerSetQueueLimits_eq name hbody, ready_frame, pass_queues] at hblock
      by_cases hframes : frames < 1 ∨ 256 < frames
      · rw [if_pos hframes] at hblock
        have hans := ha.answered_of hblock
        rw [if_pos hframes]
        exact ⟨hans, by simp [ha.queues, hblock, refuseRange, refuse]⟩
      by_cases hcells : cells < 12 ∨ 512 < cells
      · rw [if_neg hframes, if_pos hcells] at hblock
        have hans := ha.answered_of hblock
        rw [if_neg hframes, if_pos hcells]
        exact ⟨hans, by simp [ha.queues, hblock, refuseRange, refuse]⟩
      by_cases hoccupied : frames < q.frames.length ∨ cells < cellSum q.frames
      · rw [if_neg hframes, if_neg hcells, if_pos hoccupied] at hblock
        have hans := ha.answered_of hblock
        rw [if_neg hframes, if_neg hcells, if_pos hoccupied]
        exact ⟨hans, by simp [ha.queues, hblock, refuse]⟩
      · rw [if_neg hframes, if_neg hcells, if_neg hoccupied] at hblock
        have hans := ha.answered_of hblock
        have hqueues : t.queues = s.queues.on name fun x => { x with frameLimit := frames, cellLimit := cells } := by
          simp [ha.queues, hblock, okWith, frames, cells]
        rw [if_neg hframes, if_neg hcells, if_neg hoccupied]
        refine ⟨hans, ?_, ?_, hqueues⟩
        · rw [hqueues, get_on]
          simp
        · rw [hqueues, get_on]
          simp
  · intro dt s e code h hf
    obtain ⟨t, hstep, ha⟩ := holder_asks (row := rowFlushQueue) (dt := dt) h hf (names_of_carries rfl h.2.2.2)
      (by decide) (by decide) rfl rfl fun q r => by simp [KeepsPorts, rowFlushQueue]
    have hnumber : numAt e.request.body 0 = code.toNat := by rw [Requests_body h.2.2.2]; rfl
    have hblock : blockAnswer rowFlushQueue dt s e = answerFlushQueue e.request ((s.pass dt).ready e) := rfl
    refine ⟨t, hstep, ha.frame, ⟨by simp [ha.engine, hblock], by simp [ha.line, hblock], by simp [ha.led, hblock],
      by simp [ha.trunkCounters, hblock]⟩, ⟨by simp [ha.stamps, hblock], ha.identity⟩, by simp [ha.store, hblock],
      by simp [ha.stations, hblock], by simp [ha.admission, hblock], by simp [ha.notices, hblock],
      fun hcode => ?_, ?_⟩
    · simp only [answerFlushQueue, hnumber, queueOfCode_of_lt hcode] at hblock
      have hans := ha.answered_of hblock
      exact ⟨hans, by simp [ha.queues, hblock, refuseRange, refuse]⟩
    · rintro name rfl q
      simp only [answerFlushQueue, hnumber, queueOfCode_code, ready_frame, pass_queues] at hblock
      have hans := ha.answered_of hblock
      have hqueues : t.queues = s.queues.flush name := by simp [ha.queues, hblock, okWith]
      rw [hqueues]
      refine ⟨hans, by rw [get_flush, if_pos rfl], fun other hother => by rw [get_flush, if_neg hother], rfl,
        on_trunkSlot _ _ _, ?_⟩
      cases name <;> rfl

/-! ### ACK_NOTICES (R190) -/

/-- The class ACK allows the lease holder, and every uplink session while no lease is held (R168, R190). -/
theorem ack_allowed {s : State} {e : InputEntry} (hup : e.origin = .uplink) (h : s.agent.lease = none ∨ FromHolder s e)
    (dt : Nat) : permissionRefusal .ack e.request ((s.pass dt).ready e).agent = none := by
  rcases h with hnone | hholder
  · have hlease : ((s.pass dt).ready e).agent.lease = none := by
      rw [(ready_agent e (s.pass dt)).2.2.1, leaseAfterTake, pass_agent, hnone]
      split <;> rfl
    simp [permissionRefusal, hlease, show e.request.origin = .uplink from hup]
  · exact holder_allowed hholder .ack dt

/-- Settles O28: the records that stay are a filter of the list, and the rest of the part is as step 3 left it. -/
theorem ackNoticesRemovesWhatItCovers : Obligations.AckNoticesRemovesWhatItCovers := by
  intro dt s e hi lo h hup hallowed left removed
  have ⟨_, _, _, hcarries⟩ := h
  have hbody : e.request.body = [hi, lo] := Requests_body hcarries
  have hword : wordAt e.request.body 0 = hi ++ lo := by rw [hbody]; rfl
  have hsettle : rowAckNotices.settle e.request ((s.pass dt).ready e)
      = answerAckNotices e.request ((s.pass dt).ready e) := settle_allowed (ack_allowed hup hallowed dt)
        (by rw [hbody]; rfl)
  obtain ⟨t, hstep, hans, tpending, tnow, treset, tpins, tstore, tengine, tline, ttrunk, tstations, tadmission, tqueues,
    tnotices, tstamps, tidentity, tled, tlink, treceiving, tports, tlease, -, tcounters, -⟩ :=
    request_uplink h (names_of_carries (row := rowAckNotices) rfl hcarries) (by decide) (by simp [codeReadCounters]) hup
      hsettle (by simp) (by simp) (by simp) (by simp) (by simp)
  obtain ⟨-, -, rlease, -, -, rcounted, -⟩ := ready_agent e (s.pass dt)
  have hleft : s.notices.records.filter (fun r => !covers (hi ++ lo) r.number) = left := by
    refine List.filter_congr fun r _ => ?_
    rw [covers]
    exact decide_not.symm
  have hacknowledged : s.notices.acknowledge (hi ++ lo) = { s.notices with
      records := left
      lost := 0
      counters := { s.notices.counters with
        acknowledged := s.notices.counters.acknowledged + BitVec.ofNat 32 removed } } := by
    simp only [NoticeList.acknowledge, hleft]
    rfl
  simp only [answerAckNotices, hword, ready_frame, pass_notices, hacknowledged] at hans
  refine ⟨t, hstep, by simp [tnow], ⟨by simp [tstore], by simp [tengine], by simp [tled], by simp [ttrunk],
      by simp [tstations], by simp [tadmission], by simp [tstamps], by simp [tidentity]⟩,
    ⟨by simp [tpending], by simp [treset], by simp [tpins], by simp [tlink], by simp [treceiving], by simp [tports]⟩,
    by simp [tqueues], by simp [tline], ?_, ?_, ?_, ?_⟩
  · simp only [tlease, tnow, answerAckNotices_frame, rlease, ready_frame]
    rfl
  · exact hans
  · unfold Counted at rcounted ⊢
    rw [tcounters]
    simpa [answerAckNotices, okWith] using rcounted
  · simp [tnotices, answerAckNotices, okWith, hword, hacknowledged]

end Sys2Proof.Machine
end

section
/-! PROOFS. The requests of the lease holder on the station records and the rules (R75 to R79, R114 to R116): the
statements O24, O25 and O26. -/

namespace Sys2Proof.Machine

open Sys2Proof.Safety

section
variable {row : RequestRow} {dt : Nat} {s t : State} {e : InputEntry} {st : Status} {body : List Byte}

/-- A refusal leaves the records, the notices and the rules (R178). -/
theorem HolderAnswer.refused (h : HolderAnswer row dt s t e)
    (ha : blockAnswer row dt s e = refuse st body ((s.pass dt).ready e)) :
    Answered s t e st.code body ∧ (t.stations = s.stations ∧ t.notices = s.notices) ∧ t.admission = s.admission := by
  refine ⟨h.answered_of ha, ⟨?_, ?_⟩, ?_⟩
  · simp [h.stations, ha, refuse]
  · simp [h.notices, ha, refuse]
  · simp [h.admission, ha, refuse]

end

/-! ### ENROL_STATION and WITHDRAW_STATION (R75, R76) -/

theorem insertStation_perm (r : Station) (l : List Station) : (insertStation r l).Perm (r :: l) := by
  induction l with
  | nil => exact .refl _
  | cons x rest ih =>
    rw [insertStation]
    split
    · exact .refl _
    · exact (ih.cons x).trans (.swap r x rest)

/-- A record of a new number joins a table in station order in its place (R60). -/
theorem insertStation_sorted {r : Station} {l : List Station} (h : l.Pairwise fun a b => a.station < b.station)
    (hnew : ∀ x ∈ l, x.station ≠ r.station) : (insertStation r l).Pairwise fun a b => a.station < b.station := by
  induction l with
  | nil => simp [insertStation]
  | cons x rest ih =>
    rw [List.pairwise_cons] at h
    obtain ⟨hx, hrest⟩ := h
    rw [insertStation]
    split
    · rename_i hless
      refine List.pairwise_cons.mpr ⟨fun y hy => ?_, List.pairwise_cons.mpr ⟨hx, hrest⟩⟩
      rcases List.mem_cons.mp hy with rfl | hy
      · exact hless
      · exact hless.trans (hx y hy)
    · rename_i hless
      refine List.pairwise_cons.mpr ⟨fun y hy => ?_, ih hrest fun y hy => hnew y (List.mem_cons_of_mem x hy)⟩
      rcases mem_insertStation.mp hy with rfl | hy
      · have := hnew x List.mem_cons_self
        omega
      · exact hx y hy

/-- The group bit of an address is the low bit of its first byte (R106). -/
theorem groupBit_bytes (a0 a1 a2 a3 a4 a5 : Byte) : groupBit (a0 ++ a1 ++ a2 ++ a3 ++ a4 ++ a5) = a0.getLsbD 0 := by
  simp only [groupBit, BitVec.getLsbD_append]
  rfl

theorem answerEnrolStation_eq {q : Request} {n presence a0 a1 a2 a3 a4 a5 : Byte}
    (hbody : q.body = [n, presence, a0, a1, a2, a3, a4, a5]) (r : State) :
    answerEnrolStation q r =
      let bound : Option Addr := if presence.getLsbD 0 then some (a0 ++ a1 ++ a2 ++ a3 ++ a4 ++ a5) else none
      let x : Station := { station := n.toNat, bound := bound, clearStamp := r.identity.seconds }
      if n.toNat = 0 ∨ 30 < n.toNat then refuseRange .station 0xFF r
      else if presence.getLsbD 0 ∧ a0.getLsbD 0 then refuseRange .address 0xFF r
      else if (r.station? n.toNat).isSome then refuse .exists [] r
      else okWith x.bytes ((r.onStations (insertStation x)).raiseStation x .enrolled) := by
  have hnumber : numAt q.body 0 = n.toNat := by rw [hbody]; rfl
  have hbound : enrolAddress q.body = if presence.getLsbD 0 then some (a0 ++ a1 ++ a2 ++ a3 ++ a4 ++ a5) else none := by
    rw [hbody]
    rfl
  have hgroup : ((enrolAddress q.body).map groupBit).getD false = true ↔ presence.getLsbD 0 ∧ a0.getLsbD 0 := by
    rw [hbound]
    cases presence.getLsbD 0 <;> simp [groupBit_bytes]
  simp only [answerEnrolStation, hnumber, refused_outside_stations, hgroup, newStation]
  rw [hbound]

theorem answerWithdrawStation_eq {q : Request} {n : Byte} (hbody : q.body = [n]) (r : State) :
    answerWithdrawStation q r =
      if n.toNat = 0 ∨ 30 < n.toNat then refuseRange .station 0xFF r
      else match r.station? n.toNat with
        | none => refuse .unknownStation [] r
        | some x => match stationInUse n.toNat r.store with
          | some (bank, i) => refuse .inUse [bank, byteOf i] r
          | none => okWith [] ((r.onStations (List.filter fun y => y.station != n.toNat)).raiseWithdrawn x) := by
  have hnumber : numAt q.body 0 = n.toNat := by rw [hbody]; rfl
  simp only [answerWithdrawStation, hnumber, refused_outside_stations] <;> rfl

theorem firstNaming_eq (n : Nat) (b : Bank) : firstNaming n b = b.entries.findIdx? fun x => x.station == n := by
  rw [firstNaming, firstFailing_eq_findIdx?]
  simp [bne]

theorem station_of_find {n : Nat} {s : State} {r : Station} (h : s.station? n = some r) : r.station = n := by
  simpa using List.find?_some h

/-- Settles O24, by the checks of both requests in their order. -/
theorem enrolAndWithdrawStation : Obligations.EnrolAndWithdrawStation := by
  constructor
  · intro dt s e n presence a0 a1 a2 a3 a4 a5 h hf bound r
    obtain ⟨t, hstep, ha⟩ := holder_asks (row := rowEnrolStation) (dt := dt) h hf (names_of_carries rfl h.2.2.2)
      (by decide) (by decide) rfl rfl fun q r => by simp [KeepsPorts, rowEnrolStation]
    have hblock : blockAnswer rowEnrolStation dt s e = answerEnrolStation e.request ((s.pass dt).ready e) := rfl
    refine ⟨t, hstep, ha.frame, ⟨by simp [ha.engine, hblock], by simp [ha.line, hblock], by simp [ha.led, hblock],
      by simp [ha.trunkCounters, hblock]⟩, ⟨by simp [ha.stamps, hblock], ha.identity⟩, by simp [ha.store, hblock],
      by simp [ha.admission, hblock], by simp [ha.queues, hblock], ?_⟩
    have hknown : ((s.pass dt).ready e).station? n.toNat = s.station? n.toNat := by simp [State.station?]
    simp only [answerEnrolStation_eq (Requests_body h.2.2.2), hknown, (ready_frame e _).2.2.2.2.2.2.2.2.2.2.2.2.2.2.1,
      pass_identity] at hblock
    by_cases hrange : n.toNat = 0 ∨ 30 < n.toNat
    · rw [if_pos hrange] at hblock
      obtain ⟨hans, ⟨hstations, hnotices⟩, -⟩ := ha.refused hblock
      rw [if_pos hrange]
      exact ⟨hans, hstations, hnotices⟩
    by_cases hgroup : presence.getLsbD 0 ∧ a0.getLsbD 0
    · rw [if_neg hrange, if_pos hgroup] at hblock
      obtain ⟨hans, ⟨hstations, hnotices⟩, -⟩ := ha.refused hblock
      rw [if_neg hrange, if_pos hgroup]
      exact ⟨hans, hstations, hnotices⟩
    by_cases hexists : (s.station? n.toNat).isSome
    · rw [if_neg hrange, if_neg hgroup, if_pos hexists] at hblock
      obtain ⟨hans, ⟨hstations, hnotices⟩, -⟩ := ha.refused hblock
      rw [if_neg hrange, if_neg hgroup, if_pos hexists]
      exact ⟨hans, hstations, hnotices⟩
    · rw [if_neg hrange, if_neg hgroup, if_neg hexists] at hblock
      have hans := ha.answered_of hblock
      have hstations : t.stations = insertStation r s.stations := by simp [ha.stations, hblock, okWith, r, bound]
      have hnew : ∀ x ∈ s.stations, x.station ≠ r.station := by
        have hnone : s.stations.find? (fun x => x.station == n.toNat) = none := by simpa [State.station?] using hexists
        simpa using List.find?_eq_none.mp hnone
      rw [if_neg hrange, if_neg hgroup, if_neg hexists]
      refine ⟨hans, hstations ▸ insertStation_perm r s.stations,
        fun hsorted => hstations ▸ insertStation_sorted hsorted hnew, ?_⟩
      simp [ha.notices, hblock, okWith, State.raiseStation, State.raise, StationState.code, StationCause.code]
      rfl
  · intro dt s e n h hf naming kept
    obtain ⟨t, hstep, ha⟩ := holder_asks (row := rowWithdrawStation) (dt := dt) h hf (names_of_carries rfl h.2.2.2)
      (by decide) (by decide) rfl rfl fun q r => by simp [KeepsPorts, rowWithdrawStation]
    have hblock : blockAnswer rowWithdrawStation dt s e = answerWithdrawStation e.request ((s.pass dt).ready e) := rfl
    refine ⟨t, hstep, ha.frame, ⟨by simp [ha.engine, hblock], by simp [ha.line, hblock], by simp [ha.led, hblock],
      by simp [ha.trunkCounters, hblock]⟩, ⟨by simp [ha.stamps, hblock], ha.identity⟩, by simp [ha.store, hblock],
      by simp [ha.admission, hblock], by simp [ha.queues, hblock], ?_⟩
    have hknown : ((s.pass dt).ready e).station? n.toNat = s.station? n.toNat := by simp [State.station?]
    rw [answerWithdrawStation_eq (Requests_body h.2.2.2), hknown, (ready_frame e _).2.2.2.2.1, pass_store] at hblock
    by_cases hrange : n.toNat = 0 ∨ 30 < n.toNat
    · rw [if_pos hrange] at hblock
      obtain ⟨hans, hkept, -⟩ := ha.refused hblock
      rw [if_pos hrange]
      exact ⟨hans, hkept⟩
    rw [if_neg hrange] at hblock ⊢
    cases hrecord : s.station? n.toNat with
    | none =>
      rw [hrecord] at hblock
      obtain ⟨hans, hkept, -⟩ := ha.refused hblock
      exact ⟨hans, hkept⟩
    | some r =>
      simp only [hrecord, stationInUse, firstNaming_eq] at hblock
      dsimp only
      cases hactive : naming s.store.active with
      | some i =>
        simp only [naming] at hactive
        simp only [hactive] at hblock
        obtain ⟨hans, hkept, -⟩ := ha.refused hblock
        exact ⟨hans, hkept⟩
      | none =>
        simp only [naming] at hactive
        simp only [hactive] at hblock
        dsimp only
        cases hpending : (if s.store.armed then naming s.store.pending else none) with
        | some i =>
          have huse : (if s.store.armed then (naming s.store.pending).map fun i => ((0x01 : Byte), i) else none)
              = some (0x01, i) := by
            split at hpending
            · rename_i harmed
              rw [if_pos harmed, hpending]
              rfl
            · cases hpending
          simp only [naming] at huse
          rw [huse] at hblock
          obtain ⟨hans, hkept, -⟩ := ha.refused hblock
          exact ⟨hans, hkept⟩
        | none =>
          have huse : (if s.store.armed then (naming s.store.pending).map fun i => ((0x01 : Byte), i) else none)
              = none := by
            split at hpending
            · rename_i harmed
              rw [if_pos harmed, hpending]
              rfl
            · rename_i harmed
              rw [if_neg harmed]
          simp only [naming] at huse
          rw [huse] at hblock
          have hans := ha.answered_of hblock
          refine ⟨hans, by simp [ha.stations, hblock, okWith, State.raiseWithdrawn], ?_⟩
          simp [ha.notices, hblock, okWith, State.raiseWithdrawn, State.raise, station_of_find hrecord, stationNoneCode,
            StationCause.code]

/-! ### SET_STATION (R77 to R79) -/

/-- The checks of SET_STATION in their order, then the action on the record that the table holds (R77). -/
theorem setStation_eq {q : Request} {n action : Byte} {rest : List Byte} (hbody : q.body = n :: action :: rest)
    (act : Station → Answer) (r : State) :
    setStation act q r =
      if n.toNat = 0 ∨ 30 < n.toNat then refuseRange .station 0xFF r
      else if action = 0 ∨ 4 < action.toNat then refuseRange .action 0xFF r
      else match r.station? n.toNat with
        | none => refuse .unknownStation [] r
        | some x => act x := by
  have hnumber : numAt q.body 0 = n.toNat := by rw [hbody]; rfl
  have haction : numAt q.body 1 = action.toNat := by rw [hbody]; rfl
  have hzero : action = 0 ↔ action.toNat = 0 := BitVec.toNat_eq
  simp only [setStation, hnumber, haction, refused_outside_stations, hzero, Bool.or_eq_true, decide_eq_true_eq,
    Nat.lt_one_iff] <;> rfl

/-- The row of a SET_STATION action (R77). -/
def setStationRow (k : Nat) (act : Request → State → Station → Answer) : RequestRow :=
  { names := isSetStation k, permission := .write, fits := hasSize 8, answer := fun q r => setStation (act q r) q r }

/-- An action of SET_STATION changes the records and the notices alone (R77). -/
def KeepsButStations (s t : State) : Prop :=
  KeepsPorts s t ∧ t.engine = s.engine ∧ t.line = s.line ∧ t.led = s.led ∧ t.trunkCounters = s.trunkCounters
  ∧ t.stamps = s.stamps ∧ t.store = s.store ∧ t.admission = s.admission ∧ t.queues = s.queues

/-- A SET_STATION of the lease holder under a row of action `k`, up to the action itself, of which `done` tells what it
leaves (R77). -/
theorem setStation_asked {k : Nat} {act : Request → State → Station → Answer} {dt : Nat} {s : State} {e : InputEntry}
    {n action : Byte} {rest : List Byte} {done : State → Station → Prop}
    (h : Asked s e 0x33 (n :: action :: rest)) (hrest : rest.length = 6) (hf : FromHolder s e)
    (haction : action.toNat = k ∨ action = 0 ∨ 4 < action.toNat)
    (hkeeps : ∀ q r, KeepsButStations r (setStation (act q r) q r).state)
    (hdone : ∀ t r, HolderAnswer (setStationRow k act) dt s t e → s.station? n.toNat = some r →
      action.toNat = k → blockAnswer (setStationRow k act) dt s e = act e.request ((s.pass dt).ready e) r → done t r) :
    ∃ t, takeRequestEvent (setStationRow k act) dt s = .next t ∧ RequestFrame dt s t e ∧ SameEngine s t ∧ SameIdentity s t ∧
      t.store = s.store ∧ t.admission = s.admission ∧ t.queues = s.queues ∧
      if n.toNat = 0 ∨ 30 < n.toNat then
        Answered s t e 0x06 [0x20, 0xFF] ∧ t.stations = s.stations ∧ t.notices = s.notices
      else if action = 0 ∨ 4 < action.toNat then
        Answered s t e 0x06 [0x22, 0xFF] ∧ t.stations = s.stations ∧ t.notices = s.notices
      else match s.station? n.toNat with
        | none => Answered s t e 0x0A [] ∧ t.stations = s.stations ∧ t.notices = s.notices
        | some r => done t r := by
  have hcarries : Carries e codeSetStation (n :: action :: rest) := h.2.2.2
  have hbody : e.request.body = n :: action :: rest := Requests_body hcarries
  have hnames : isSetStation k e.bytes = true := by
    refine isSetStation_of_carries hcarries ?_
    rcases haction with hk | hzero | hlarge
    · exact .inl ⟨by simp, hk⟩
    · exact .inr (.inr (.inl (by rw [hzero]; rfl)))
    · exact .inr (.inr (.inr hlarge))
  obtain ⟨t, hstep, ha⟩ := holder_asks (row := setStationRow k act) (dt := dt) h hf hnames (by decide) (by decide) rfl
    (by simp [setStationRow, hasSize, hrest]) fun q r => (hkeeps q r).1
  obtain ⟨-, kengine, kline, kled, ktrunk, kstamps, kstore, kadmission, kqueues⟩ :=
    hkeeps e.request ((s.pass dt).ready e)
  have hblock := setStation_eq hbody (act e.request ((s.pass dt).ready e)) ((s.pass dt).ready e)
  have hknown : ((s.pass dt).ready e).station? n.toNat = s.station? n.toNat := by simp [State.station?]
  rw [hknown] at hblock
  refine ⟨t, hstep, ha.frame, ⟨?_, ?_, ?_, ?_⟩, ⟨?_, ha.identity⟩, ?_, ?_, ?_, ?_⟩
  · exact ha.engine.trans (kengine.trans (by simp))
  · exact ha.line.trans (kline.trans (by simp))
  · exact ha.led.trans (kled.trans (by simp))
  · exact ha.trunkCounters.trans (ktrunk.trans (by simp))
  · exact ha.stamps.trans (kstamps.trans (by simp))
  · exact ha.store.trans (kstore.trans (by simp))
  · exact ha.admission.trans (kadmission.trans (by simp))
  · exact ha.queues.trans (kqueues.trans (by simp))
  · by_cases hrange : n.toNat = 0 ∨ 30 < n.toNat
    · rw [if_pos hrange] at hblock
      obtain ⟨hans, hkept, -⟩ := ha.refused hblock
      rw [if_pos hrange]
      exact ⟨hans, hkept⟩
    by_cases hbad : action = 0 ∨ 4 < action.toNat
    · rw [if_neg hrange, if_pos hbad] at hblock
      obtain ⟨hans, hkept, -⟩ := ha.refused hblock
      rw [if_neg hrange, if_pos hbad]
      exact ⟨hans, hkept⟩
    rw [if_neg hrange, if_neg hbad] at hblock ⊢
    cases hrecord : s.station? n.toNat with
    | none =>
      rw [hrecord] at hblock
      obtain ⟨hans, hkept, -⟩ := ha.refused hblock
      exact ⟨hans, hkept⟩
    | some r =>
      rw [hrecord] at hblock
      exact hdone t r ha hrecord (haction.resolve_right hbad) hblock

/-- Settles O25: the four rows share their checks, and each has its own action on the record. -/
theorem setStationChangesOneRecord : Obligations.SetStationChangesOneRecord := by
  intro c dt s e n action a0 a1 a2 a3 a4 a5 hrow h hf kept raised becomes
  have hbecomes : ∀ {row : RequestRow} {t : State} {r r' : Station} {r2 : State}, HolderAnswer row dt s t e →
      s.station? n.toNat = some r → blockAnswer row dt s e = okWith r'.bytes r2 →
      r2.stations = (((s.pass dt).ready e).onStation r.station fun _ => r').stations → becomes t r' := by
    intro row t r r' r2 ha hr hblock hstations
    have hans := ha.answered_of hblock
    refine ⟨hans, ?_⟩
    rw [ha.stations, hblock]
    simp [okWith, hstations, State.onStation, station_of_find hr]
  have hnumber : ∀ k : Byte, action = k ∨ action = 0 ∨ 4 < action.toNat →
      action.toNat = k.toNat ∨ action = 0 ∨ 4 < action.toNat := fun k => Or.imp_left (congrArg BitVec.toNat)
  have hbyte : ∀ k : Byte, action.toNat = k.toNat → action = k := fun _ => BitVec.eq_of_toNat_eq
  rcases hrow with ⟨rfl, hmute⟩ | ⟨rfl, hrestore⟩ | ⟨rfl, hbind⟩ | ⟨rfl, hunbind⟩
  · refine setStation_asked (k := 1) (act := fun _ => actMute) h rfl hf (hnumber 1 hmute)
      (fun q r => by simp [KeepsButStations, KeepsPorts]) fun t r ha hr hk hblock => ?_
    obtain rfl := hbyte 1 hk
    refine ⟨fun _ => ⟨hbecomes ha hr hblock ?_, ?_⟩, fun h2 => absurd h2 (by decide), fun h3 => absurd h3 (by decide),
      fun h4 => absurd h4 (by decide)⟩
    · split <;> simp [Station.mute]
    · rw [ha.notices, hblock]
      by_cases hsame : r.state = .muted ∧ r.muteCause = some .manual
      · simp [actMute, okWith, hsame]
      · simp [actMute, okWith, hsame, State.raiseStation, State.raise, raised, Station.mute, StationCause.code]
  · refine setStation_asked (k := 2) (act := fun _ => actRestore) h rfl hf (hnumber 2 hrestore)
      (fun q r => by simp [KeepsButStations, KeepsPorts]) fun t r ha hr hk hblock => ?_
    obtain rfl := hbyte 2 hk
    refine ⟨fun h1 => absurd h1 (by decide), fun _ => ⟨hbecomes ha hr hblock ?_, ?_⟩, fun h3 => absurd h3 (by decide),
      fun h4 => absurd h4 (by decide)⟩
    · simp [Station.restore]
    · rw [ha.notices, hblock]
      simp [actRestore, okWith, State.raiseStation, State.raise, raised, Station.restore, StationCause.code]
  · refine setStation_asked (k := 3) (act := actBind) h rfl hf (hnumber 3 hbind)
      (fun q r => by simp [KeepsButStations, KeepsPorts]) fun t r ha hr hk hblock => ?_
    obtain rfl := hbyte 3 hk
    refine ⟨fun h1 => absurd h1 (by decide), fun h2 => absurd h2 (by decide), fun _ => ?_,
      fun h4 => absurd h4 (by decide)⟩
    have haddress : addrAt e.request.body 2 = a0 ++ a1 ++ a2 ++ a3 ++ a4 ++ a5 := by
      rw [Requests_body h.2.2.2]
      rfl
    simp only [actBind, haddress, groupBit_bytes] at hblock
    by_cases hgroup : a0.getLsbD 0 = true
    · rw [if_pos hgroup] at hblock ⊢
      obtain ⟨hans, hkept, -⟩ := ha.refused hblock
      exact ⟨hans, hkept⟩
    · rw [if_neg hgroup] at hblock ⊢
      refine ⟨hbecomes ha hr hblock rfl, ?_⟩
      rw [ha.notices, hblock]
      simp [okWith]
  · refine setStation_asked (k := 4) (act := fun _ => actUnbind) h rfl hf (hnumber 4 hunbind)
      (fun q r => by simp [KeepsButStations, KeepsPorts]) fun t r ha hr hk hblock => ?_
    obtain rfl := hbyte 4 hk
    refine ⟨fun h1 => absurd h1 (by decide), fun h2 => absurd h2 (by decide), fun h3 => absurd h3 (by decide),
      fun _ => ⟨hbecomes ha hr hblock rfl, ?_⟩⟩
    rw [ha.notices, hblock]
    simp [actUnbind, okWith]

/-! ### WRITE_RULES and SET_DEFAULTS (R114 to R116) -/

/-- The body of a WRITE_RULES: `f`, `k` and `k` rules (R210). -/
structure WritesRules (body : List Byte) (f : Byte) (rs : List (List Byte)) : Prop where
  spelled : body = [f, byteOf rs.length] ++ rs.flatten
  sized : ∀ x ∈ rs, x.length = 18
  short : body.length ≤ 480

section
variable {body : List Byte} {f : Byte} {rs : List (List Byte)}

theorem WritesRules.length (h : WritesRules body f rs) : body.length = 2 + 18 * rs.length := by
  have hlengths : rs.map List.length = rs.map fun _ => 18 := List.map_congr_left h.sized
  rw [h.spelled]
  simp [List.length_flatten, hlengths]
  omega

theorem WritesRules.count (h : WritesRules body f rs) : numAt body 1 = rs.length := by
  have := h.length
  have := h.short
  rw [h.spelled]
  simp [numAt, byteAt, byteOf]
  omega

theorem WritesRules.first (h : WritesRules body f rs) : numAt body 0 = f.toNat := by
  rw [h.spelled]
  rfl

theorem WritesRules.items (h : WritesRules body f rs) : writeRuleItems body = rs := by
  rw [writeRuleItems, h.count, h.spelled]
  exact itemsOf_flatten h.sized

theorem WritesRules.fits (h : WritesRules body f rs) : rowWriteRules.fits body = true := by
  simp [rowWriteRules, h.count, h.length]

theorem WritesRules.of_carries {e : InputEntry} {code : Byte} (h : Carries e code ([f, byteOf rs.length] ++ rs.flatten))
    (hsized : ∀ x ∈ rs, x.length = 18) : WritesRules e.request.body f rs := by
  refine ⟨Requests_body h, hsized, ?_⟩
  rw [Requests_body h, ← envBody_length h]
  exact h.2.1

end

theorem ruleItemValid_iff (x : List Byte) : ruleItemValid x = true ↔ RuleInRange x := by
  simp only [ruleItemValid, RuleInRange, Bool.and_eq_true, Bool.or_eq_true, decide_eq_true_eq, bne_iff_ne, beq_iff_eq,
    and_assoc, or_iff_not_imp_left, not_not]

/-- The rules from `f` on are the new ones, as many as there are, and every other rule stays (R115). -/
theorem writeRules_getElem? {f i : Nat} {new old : List Rule} (hf : f ≤ old.length) :
    (writeRules f new old)[i]? = if f ≤ i ∧ i < f + new.length then new[i - f]? else old[i]? := by
  have htake : (old.take f).length = f := by simp [hf]
  simp only [writeRules, List.append_assoc, List.getElem?_append, htake, List.getElem?_drop, List.getElem?_take]
  by_cases hbefore : i < f
  · simp [hbefore, Nat.not_le.mpr hbefore]
  · by_cases hwithin : i < f + new.length
    · simp [hbefore, hwithin, show i - f < new.length by omega, show f ≤ i by omega]
    · simp [hbefore, hwithin, show ¬ i - f < new.length by omega,
        show f + new.length + (i - f - new.length) = i by omega]

/-- A default of a code below 3 is told by that code (R116). -/
theorem actionOfCode_code {b : Byte} (h : ¬ 3 ≤ b.toNat) : (actionOfCode b.toNat).code = b := by
  refine BitVec.eq_of_toNat_eq ?_
  match hb : b.toNat, h with
  | 0, _ | 1, _ | 2, _ => rfl
  | n + 3, hlarge => omega

/-- Settles O26, by the checks of both requests in their order. -/
theorem writeRulesAndSetDefaults : Obligations.WriteRulesAndSetDefaults := by
  constructor
  · intro dt s e f rs h hf hsized hplaces
    have hw : WritesRules e.request.body f rs := WritesRules.of_carries h.2.2.2 hsized
    obtain ⟨t, hstep, ha⟩ := holder_asks (row := rowWriteRules) (dt := dt) h hf (names_of_carries rfl h.2.2.2)
      (by decide) (by decide) rfl (Requests_body h.2.2.2 ▸ hw.fits) fun q r => by simp [KeepsPorts, rowWriteRules]
    have hblock : blockAnswer rowWriteRules dt s e = answerWriteRules e.request ((s.pass dt).ready e) := rfl
    refine ⟨t, hstep, ha.frame, ⟨by simp [ha.engine, hblock], by simp [ha.line, hblock], by simp [ha.led, hblock],
      by simp [ha.trunkCounters, hblock]⟩, ⟨by simp [ha.stamps, hblock], ha.identity⟩, by simp [ha.store, hblock],
      by simp [ha.stations, hblock], by simp [ha.queues, hblock], by simp [ha.notices, hblock], fun hcount => ?_,
      fun hcount => ⟨fun i x hx hbad hgood => ?_, fun hgood => ?_⟩⟩
    all_goals simp only [answerWriteRules, hw.first, hw.count, hw.items] at hblock
    · rw [if_pos hcount] at hblock
      obtain ⟨hans, -, hadmission⟩ := ha.refused hblock
      exact ⟨hans, hadmission⟩
    · have hfail : firstFailing ruleItemValid rs = some i :=
        firstFailing_eq_some hx (Bool.eq_false_iff.mpr (mt (ruleItemValid_iff x).mp hbad))
          fun j y hj hy => (ruleItemValid_iff y).mpr (hgood j y hj hy)
      rw [if_neg (Nat.not_lt.mpr hcount), hfail] at hblock
      obtain ⟨hans, -, hadmission⟩ := ha.refused hblock
      exact ⟨hans, hadmission⟩
    · have hpass : firstFailing ruleItemValid rs = none :=
        firstFailing_eq_none fun x hx => (ruleItemValid_iff x).mpr (hgood x hx)
      rw [if_neg (Nat.not_lt.mpr hcount), hpass] at hblock
      have hans := ha.answered_of hblock
      have hadmission : t.admission = { s.admission with
          rules := writeRules f.toNat (rs.map ruleOf) s.admission.rules } := by
        rw [ha.admission, hblock]
        simp [okWith]
      have hrules : t.admission.rules = writeRules f.toNat (rs.map ruleOf) s.admission.rules := by rw [hadmission]
      refine ⟨hans, by rw [hrules, hadmission], ?_, fun i hi => ?_⟩
      · rw [hrules, writeRules_length (by simpa [hplaces] using hcount), hplaces]
      · rw [hrules, writeRules_getElem? (by omega), List.length_map, List.getElem?_map]
  · intro dt s e up down h hf
    obtain ⟨t, hstep, ha⟩ := holder_asks (row := rowSetDefaults) (dt := dt) h hf (names_of_carries rfl h.2.2.2)
      (by decide) (by decide) rfl rfl fun q r => by simp [KeepsPorts, rowSetDefaults]
    have hblock : blockAnswer rowSetDefaults dt s e = answerSetDefaults e.request ((s.pass dt).ready e) := rfl
    refine ⟨t, hstep, ha.frame, ⟨by simp [ha.engine, hblock], by simp [ha.line, hblock], by simp [ha.led, hblock],
      by simp [ha.trunkCounters, hblock]⟩, ⟨by simp [ha.stamps, hblock], ha.identity⟩, by simp [ha.store, hblock],
      by simp [ha.stations, hblock], by simp [ha.queues, hblock], by simp [ha.notices, hblock], ?_⟩
    have hup : numAt e.request.body 0 = up.toNat := by rw [Requests_body h.2.2.2]; rfl
    have hdown : numAt e.request.body 1 = down.toNat := by rw [Requests_body h.2.2.2]; rfl
    simp only [answerSetDefaults, hup, hdown] at hblock
    by_cases hfirst : 3 ≤ up.toNat
    · rw [if_pos hfirst] at hblock ⊢
      obtain ⟨hans, -, hadmission⟩ := ha.refused hblock
      exact ⟨hans, hadmission⟩
    by_cases hsecond : 3 ≤ down.toNat
    · rw [if_neg hfirst, if_pos hsecond] at hblock ⊢
      obtain ⟨hans, -, hadmission⟩ := ha.refused hblock
      exact ⟨hans, hadmission⟩
    · rw [if_neg hfirst, if_neg hsecond] at hblock ⊢
      have hans := ha.answered_of hblock
      refine ⟨hans, _, _, actionOfCode_code hfirst, actionOfCode_code hsecond, ?_⟩
      rw [ha.admission, hblock]
      simp [okWith]

end Sys2Proof.Machine
end

section
/-! PROOFS. The round engine: the end of a call, the entries, the floor fill and the engine's timers (R33 to R59): the
statements O32, O33, O34, O37, O38, O39 and O40. -/

namespace Sys2Proof.Machine

open Sys2Proof.Safety

/-! ### The end of a call (R37 to R46) -/

/-- The part after a report on the station of an entry: its record as the report judges it, with the notice of the last
change of its state (R64). -/
def reported (n : Nat) (j : Judged) (s : State) : State :=
  { s with
    stations := s.stations.map fun x => if x.station = n then j.1 else x
    notices := match j.2 with
      | none => s.notices
      | some cause => s.notices.raise s.engine.round .stationState (some n)
          ⟨j.1.state.code, cause.code, byteOf j.1.missCount, byteOf j.1.strikeCount⟩ }

theorem report_eq {n : Nat} {p : Report} {s : State} {r : Station} (h : s.station? n = some r) :
    s.report n p = reported n (judge s.store.active.header p r) s := by
  have hstation : (judge s.store.active.header p r).1.station = n := (KeepsTrunk.judge_station _ _ _).trans (station_of_find h)
  rw [State.report, h]
  dsimp only
  unfold reported
  cases (judge s.store.active.header p r).2 with
  | none => simp [State.onStation, State.onStations]
  | some cause =>
    simp [State.onStation, State.onStations, State.raiseStation, State.raise, State.onNotices, hstation]

/-- Where the rules of RUNNING lead on, STOPPING leads to STOPPED (R28). -/
theorem leadTo_eq (next : State → State) (s : State) :
    s.leadTo next = if s.engine.trunk = .stopping then stoppedFrom s else next s := by
  simp only [State.leadTo, enterStopped_eq, beq_iff_eq]

/-- Settles O32: the report first, whose state the counters, the notices and the next phase then change. -/
theorem outcomeEndsTheCall : Obligations.OutcomeEndsTheCall := by
  intro o s entry r i hi hentry hr j told strayCounted noticed
  have hcalled : s.calledStation = entry.station := calledStation_eq hi hentry
  have hreport : s.reportOutcome o = told := by
    rw [State.reportOutcome, hcalled, report_eq hr]
    rfl
  have hstrayReport : (s.countTrunk fun c => { c with strays := c.strays + 1 }).reportOutcome .stray
      = { s.reportOutcome .stray with trunkCounters := { s.trunkCounters with strays := s.trunkCounters.strays + 1 } } := by
    have hcalled' : (s.countTrunk fun c => { c with strays := c.strays + 1 }).calledStation = entry.station := hcalled
    have hr' : (s.countTrunk fun c => { c with strays := c.strays + 1 }).station? entry.station = some r := hr
    rw [State.reportOutcome, hcalled', report_eq hr', State.reportOutcome, hcalled, report_eq hr]
    rfl
  have hled : ∀ next : State → State, noticed.leadTo next
      = if s.engine.trunk = .stopping then stoppedFrom noticed else next noticed := by
    intro next
    have htrunk : noticed.engine.trunk = s.engine.trunk := by cases o <;> rfl
    rw [leadTo_eq, htrunk]
  cases o with
  | passed | answered | missed =>
    change (s.reportOutcome _).leadTo State.toTurnaround = _
    rw [hreport]
    exact hled _
  | stray =>
    change State.leadTo _ (State.raiseRecovery (some s.calledStation) .stray s.engine.index
      ((s.countTrunk fun c => { c with strays := c.strays + 1 }).reportOutcome .stray)) = _
    rw [hstrayReport, hreport, hcalled]
    exact hled _
  | collided =>
    change State.leadTo _ (State.raiseRecovery (some s.calledStation) .collision s.engine.index
      (s.reportOutcome .collided)) = _
    rw [hreport, hcalled]
    exact hled _
  | excess =>
    change (s.reportOutcome _).leadTo State.toQuieting = _
    rw [hreport]
    exact hled _
  | overrun =>
    have htrunk : told.engine.trunk = s.engine.trunk := rfl
    simp only [State.endCall, hreport, hcalled, htrunk, beq_iff_eq, enterStopped_eq, enterBlocked_eq]
    rfl

/-! ### The floor fill (R58) -/

theorem fillIdle_iff (s : State) :
    fillIdle s = true ↔ s.engine.trunk = .running ∧ s.engine.phase = some .floor ∧ s.engine.fillSuspended = false
      ∧ s.line.tx = none ∧ s.engine.gap = none := by
  simp [fillIdle, and_assoc]

theorem floorExpiry_eq {s : State} {start : Nat} (hstart : s.engine.roundStart = some start)
    (hfloor : s.store.active.header.floor ≠ 0) :
    floorExpiry s = some (start + s.store.active.header.floor * 100) := by
  simp [floorExpiry, hstart, hfloor, microsecond]

/-- Settles O34, by whether the fill is idle and whether DX holds a frame. -/
theorem floorFillTakesWhatFits : Obligations.FloorFillTakesWhatFits := by
  intro s start hstart hfloor hslot idle
  refine ⟨fun hbusy => ?_, fun hempty => ?_, fun f rest hidle hframes => ?_⟩
  · rw [State.considerFill, if_neg (mt (fillIdle_iff s).mp hbusy)]
  · rw [State.considerFill, hempty]
    split <;> rfl
  · have hfits : fitsFloor f.length s = true ↔
        s.now + ((f.bytes.length + 8) * 8 + 96) * 10 ≤ start + s.store.active.header.floor * 100 := by
      rw [fitsFloor, floorExpiry_eq hstart hfloor]
      refine decide_eq_true_iff.trans ?_
      simp only [chargedTime, carrierTime, interFrameGap, bitTime, Frame.length]
      omega
    rw [State.considerFill, if_pos ((fillIdle_iff s).mpr hidle), hframes]
    simp only [hfits, takeFrame_eq .dx f rest s hframes hslot]

/-! ### Entry starts (R31 to R36, R48, R57) -/

/-- An entry start at the entry of the next index. -/
theorem startEntry_at {s : State} {k : Nat} (hk : nextIndex s.engine = k) {e : RoundEntry}
    (he : s.store.active.entries[k]? = some e) :
    s.startEntry = startEntries (e :: s.store.active.entries.drop (k + 1)) k s := by
  obtain ⟨hlt, rfl⟩ := List.getElem?_eq_some_iff.mp he
  rw [State.startEntry, hk, List.drop_eq_getElem_cons hlt]

/-- The entries after index `k` are started by an entry start at index `k` (R33). -/
theorem startEntries_after {s : State} {k : Nat} (h : s.engine.index = some k) :
    startEntries (s.store.active.entries.drop (k + 1)) (k + 1) s = s.startEntry := by
  have hnext : nextIndex s.engine = k + 1 := by rw [nextIndex, h]
  rw [State.startEntry, hnext]

theorem entryCalled_iff {first : Bool} {n : Nat} {s : State} {r : Station} (h : s.station? n = some r) :
    entryCalled first n s = true ↔ r.state = .unseen ∨ r.state = .present
      ∨ (r.state = .lapsed ∧ s.engine.round.toNat % s.store.active.header.probePeriod = 0 ∧ first = true) := by
  rw [entryCalled, h]
  cases hstate : r.state <;> simp [hstate, probeRound]

/-- A counter of one record advances (R63). -/
theorem countStation_eq (n : Nat) (f : StationCounters → StationCounters) (s : State) :
    s.countStation n f = { s with stations := s.stations.map fun x => if x.station = n then
      { x with counters := f x.counters } else x } := by
  simp [State.countStation, State.onStation, State.onStations]

theorem addFirst_eq (n : Nat) (l : List Nat) : addFirst n l = if n ∈ l then l else l ++ [n] := by
  simp [addFirst]

theorem floorAhead_iff (s : State) :
    floorAhead s = true ↔ s.store.active.header.floor ≠ 0 ∧ ∃ start, s.engine.roundStart = some start
      ∧ s.now < start + s.store.active.header.floor * 100 := by
  by_cases hfloor : s.store.active.header.floor = 0
  · simp [floorAhead, floorExpiry, hfloor]
  · cases hstart : s.engine.roundStart with
    | none => simp [floorAhead, floorExpiry, hstart]
    | some start => simp [floorAhead, floorExpiry_eq hstart hfloor, hfloor]

/-- What a drain leads to, by the fronts of DX and DN: the take of a front frame, or nothing to take (R48). -/
theorem drain_cases {d : Drain} {qs : Queues} {taken : QueueName → Frame → List Frame → Prop} {nothing : Prop}
    (hsome : ∀ q f rest, drainQueue d qs = some q → (qs.get q).frames = f :: rest → taken q f rest)
    (hnone : drainQueue d qs = none → nothing) :
    match (generalizing := false) d, qs.dx.frames, qs.dn.frames with
    | .expFirst, f :: rest, _ => taken .dx f rest
    | .expOnly, f :: rest, _ => taken .dx f rest
    | .expFirst, [], f :: rest => taken .dn f rest
    | .normalOnly, _, f :: rest => taken .dn f rest
    | _, _, _ => nothing := by
  cases d <;> cases hdx : qs.dx.frames <;> cases hdn : qs.dn.frames
  case expFirst.nil.nil | expOnly.nil.nil | expOnly.nil.cons | normalOnly.nil.nil | normalOnly.cons.nil =>
    exact hnone (by simp [drainQueue, hdx, hdn])
  case expFirst.nil.cons | normalOnly.nil.cons | normalOnly.cons.cons =>
    exact hsome .dn _ _ (by simp [drainQueue, hdx, hdn]) hdn
  case expFirst.cons.nil | expFirst.cons.cons | expOnly.cons.nil | expOnly.cons.cons =>
    exact hsome .dx _ _ (by simp [drainQueue, hdx]) hdx

/-- Settles O33, by what stands at the next index. -/
theorem entryStartCallsSkipsOrEnds : Obligations.EntryStartCallsSkipsOrEnds := by
  intro s k seen probe
  have hk : nextIndex s.engine = k := rfl
  refine ⟨fun e r he hstation hr => ?_, fun e he hhead hslot => ?_, fun hnone => ?_⟩
  · have hseen : addFirst e.station s.engine.firstEntry = seen e.station := addFirst_eq _ _
    have hcalled : entryCalled (!s.engine.firstEntry.contains e.station) e.station
        ((s.onEngine fun g => { g with index := some k }).onEngine fun g =>
          { g with firstEntry := addFirst e.station g.firstEntry }) = true
        ↔ r.state = .unseen ∨ r.state = .present
          ∨ (r.state = .lapsed ∧ probe ∧ e.station ∉ s.engine.firstEntry) := by
      rw [entryCalled_iff (s := (s.onEngine fun g => { g with index := some k }).onEngine fun g =>
        { g with firstEntry := addFirst e.station g.firstEntry }) hr]
      simp [probe]
    have hnohead : ¬ (e.station == 0) = true := by simpa using hstation
    rw [startEntry_at hk he, startEntries, if_neg hnohead]
    by_cases hcall : r.state = .unseen ∨ r.state = .present
        ∨ (r.state = .lapsed ∧ probe ∧ e.station ∉ s.engine.firstEntry)
    · rw [if_pos hcall, if_pos (hcalled.mpr hcall), ← hseen]
      rfl
    · rw [if_neg hcall, if_neg (mt hcalled.mp hcall), ← hseen]
      rw [State.skipStation, countStation_eq]
      exact startEntries_after (s := { s with
        engine := { s.engine with index := some k, firstEntry := addFirst e.station s.engine.firstEntry }
        stations := s.stations.map fun x => if x.station = e.station then
          { x with counters := { x.counters with callsSkipped := x.counters.callsSkipped + 1 } } else x }) rfl
  · intro started
    have hhead' : (e.station == 0) = true := by simpa using hhead
    have hstart : s.startEntry = match drainQueue e.drain s.queues with
        | some q => State.startHeadEntry e q (s.onEngine fun g => { g with index := some k })
        | none => startEntries (s.store.active.entries.drop (k + 1)) (k + 1)
            (s.onEngine fun g => { g with index := some k }) := by
      rw [startEntry_at hk he, startEntries, if_pos hhead']
      rfl
    refine drain_cases (d := e.drain) (qs := s.queues) (taken := fun q f rest => s.startEntry = takenFrom q f rest started)
      (nothing := s.startEntry = State.startEntry { s with engine := { s.engine with index := some k } })
      (fun q f rest hq hframes => ?_) fun hq => ?_
    · rw [hstart, hq]
      exact takeFrame_eq q f rest started hframes hslot
    · rw [hstart, hq]
      exact startEntries_after (s := s.onEngine fun g => { g with index := some k }) rfl
  · intro ended ahead
    have hdrop : s.store.active.entries.drop k = [] := List.drop_eq_nil_iff.mpr (List.getElem?_eq_none_iff.mp hnone)
    have hend : s.startEntry = s.endRound := by rw [State.startEntry, hk, hdrop, startEntries]
    have hahead : floorAhead ended = true ↔ ahead := floorAhead_iff ended
    refine ⟨fun hpast => ?_, fun hwaits => ?_⟩
    · rw [hend, State.endRound]
      exact (if_neg (mt hahead.mp hpast)).trans (roundBoundary_eq ended)
    · rw [hend, State.endRound]
      exact if_pos (hahead.mpr hwaits)

/-! ### The gap, the windows, the turnaround and the floor (R37, R40, R49, R52, R57) -/

/-- Settles O37, by the phase and by what the entry's drain selects. -/
theorem gapEndTakesTheNextFrame : Obligations.GapEndTakesTheNextFrame := by
  intro s ends hreset hgap hslot past spent
  have hexec : exec .interFrameGapEnd s = .next (s.reach ends).afterGap.arbitrate := by
    have hend : s.endGap = (s.reach ends).afterGap := by rw [State.endGap, hgap]
    exact hend ▸ takeEvent_eq hreset
  refine ⟨fun i e hphase hindex he => ?_, fun hphase => ?_⟩
  · have hentry : past.currentEntry = some e := by
      change s.engine.index.bind (fun i => s.store.active.entries[i]?) = some e
      rw [hindex]
      exact he
    have hafter : (s.reach ends).afterGap = match drainQueue e.drain s.queues with
        | some q => past.takeHeadFrame q
        | none => past.startEntry := by
      change (match past.engine.phase with
        | some .sending => match past.currentEntry.bind fun e => drainQueue e.drain past.queues with
          | some q => past.takeHeadFrame q
          | none => past.startEntry
        | some .floor => past.considerFill
        | _ => past) = _
      rw [show past.engine.phase = some .sending from hphase, hentry]
      rfl
    refine drain_cases (d := e.drain) (qs := s.queues)
      (taken := fun q f rest => exec .interFrameGapEnd s = .next (takenFrom q f rest spent).arbitrate)
      (nothing := exec .interFrameGapEnd s = .next past.startEntry.arbitrate) (fun q f rest hq hframes => ?_) fun hq => ?_
    · rw [hexec, hafter, hq]
      exact congrArg (fun t => Host.Outcome.next (State.arbitrate t)) (takeFrame_eq q f rest spent hframes hslot)
    · rw [hexec, hafter, hq]
  · rw [hexec, State.afterGap]
    change Host.Outcome.next (State.arbitrate (match s.engine.phase with
      | some .sending => _
      | some .floor => past.considerFill
      | _ => past)) = _
    rw [hphase]

/-- Settles O38, timer by timer. -/
theorem windowsTurnaroundAndFloorExpire : Obligations.WindowsTurnaroundAndFloorExpire := by
  refine ⟨fun s ends hreset htimer => ?_, fun s start hreset htrunk hphase htx hfloor hstart => ?_⟩
  · intro then_
    refine ⟨fun hphase => ?_, fun hphase => ?_, fun hphase => ?_⟩
    · have hend : s.expireAnswer = then_.endCall .missed := by
        rw [State.expireAnswer, hphase, htimer]
        rfl
      exact hend ▸ takeEvent_eq hreset
    · have hend : s.expireContinue = then_.endCall .answered := by
        rcases hphase with hphase | hphase <;> rw [State.expireContinue, hphase, htimer] <;> rfl
      exact hend ▸ takeEvent_eq hreset
    · have hend : s.endTurnaround = then_.startEntry := by
        rw [State.endTurnaround, hphase, htimer]
        rfl
      exact hend ▸ takeEvent_eq hreset
  · intro then_ waiting
    have hexpires : s.expireFloor = then_.floorPassed := by
      rw [State.expireFloor, if_pos (by simp [htrunk, hphase, htx]), floorExpiry_eq hstart hfloor]
      rfl
    refine ⟨fun hruns => ?_, fun hsuspended => ?_⟩
    · have hpassed : s.expireFloor = roundStartedFrom then_ := by
        rw [hexpires, State.floorPassed, if_neg (by simp [then_, hruns]), roundBoundary_eq]
      exact hpassed ▸ takeEvent_eq hreset
    · have hpassed : s.expireFloor = { waiting with engine := { waiting.engine with toBoundary := true } } := by
        rw [hexpires, State.floorPassed, if_pos hsuspended]
        rfl
      exact hpassed ▸ takeEvent_eq hreset

/-! ### The quiet interval (R23) -/

/-- Settles O39, by the trunk state and the phase that waits. -/
theorem quietIntervalEndsTheWait : Obligations.QuietIntervalEndsTheWait := by
  intro s since hreset hburst hfrom now running
  have hsees : s.seeQuiet = State.quietSeen { s with now := now } := by
    have hmoment : quietMoment s = some (max since (s.line.lastOff.getD 0) + 2560) := by
      simp [quietMoment, State.carrier, hburst, hfrom, quietLength, bitTime]
    rw [State.seeQuiet, hmoment]
    rfl
  have hexec : exec .quietInterval s = .next (State.quietSeen { s with now := now }).arbitrate :=
    hsees ▸ takeEvent_eq hreset
  have hruns : ∀ cause : TrunkCause, State.enterRunning cause { s with now := now } = running cause.code := fun cause =>
    roundBoundary_eq _
  refine ⟨fun htrunk => ?_, fun htrunk => ?_, fun htrunk hphase hboundary => ?_, fun htrunk hphase hboundary => ?_,
    fun htrunk hphase hgap => ?_⟩
  · rw [hexec, State.quietSeen]
    simp only [htrunk, hruns]
    rfl
  · rw [hexec, State.quietSeen]
    simp only [htrunk, hruns]
    rfl
  · rw [hexec, State.quietSeen]
    simp [htrunk, hphase, hboundary]
  · rw [hexec, State.quietSeen]
    simp [htrunk, hphase, hboundary, roundBoundary_eq]
  · rw [hexec, State.quietSeen]
    simp only [htrunk, hphase, State.resumeFill, State.onEngine, hgap, Option.getD_none, Nat.zero_le, if_true]

/-! ### CARRIER_ON (R83, R85) -/

/-- Settles O40: the burst begins, since no echo allowance runs past the moment, and the engine meets it by its phase. -/
theorem carrierOnBeginsABurst : Obligations.CarrierOnBeginsABurst := by
  intro dt s hreset htx hburst hecho on receiving
  have hover : ((s.pass dt).onPins fun p => { p with tkCrs := true }).echoRunning = false := by
    change (match s.line.echo with | some x => decide (s.now + dt < x.ends) | none => false) = false
    cases hx : s.line.echo with
    | none => rfl
    | some x => exact decide_eq_false (Nat.not_lt.mpr (hecho x hx))
  have hrises : ((s.pass dt).onPins fun p => { p with tkCrs := true }).carrierRises = carrierMet on := by
    rw [State.carrierRises, hover, if_neg (by simp [htx, State.carrier, hburst]), engineCarrierOn_eq]
    rfl
  have hexec : exec (.carrierOn dt) s = .next (carrierMet on).arbitrate :=
    hrises ▸ takeEvent_eq (s := (s.pass dt).onPins fun p => { p with tkCrs := true }) hreset
  exact hexec

end Sys2Proof.Machine
end

section
/-! PROOFS. What TK_TXD carries, and the ends of a marker and of a head frame (R32, R36, R50, R82, R92, R93): the
statements O35 and O36. -/

namespace Sys2Proof.Machine

open Sys2Proof.Safety

/-! ### TK_TXD (R82) -/

section
variable {s : State} {content : TrunkContent} {ends moment : Nat}

theorem tkTxd_eq (h : s.line.tx = some ⟨content, ends⟩) :
    s.tkTxd moment = itemAt (bitsOfBytes s.trunkBytes) bitTime ends moment := by
  rw [State.tkTxd, h]
  rfl

/-- During its BT, bit `i % 8` of byte `i / 8` is on TK_TXD. -/
theorem tkTxd_during (h : s.line.tx = some ⟨content, ends⟩) {i : Nat} (hi : i < 8 * s.trunkBytes.length)
    (hfrom : ends + 10 * i ≤ moment + 80 * s.trunkBytes.length)
    (hto : moment + 80 * s.trunkBytes.length < ends + 10 * (i + 1)) :
    s.tkTxd moment = some ((s.trunkBytes.getD (i / 8) 0).getLsbD (i % 8)) := by
  rw [tkTxd_eq h, itemAt_during (i := i), bitsOfBytes_get _ _ hi]
  · rwa [bitsOfBytes_length]
  all_goals
    rw [bitsOfBytes_length, bitTime]
    omega

/-- Before the first bit and after the last, TK_TXD carries nothing. -/
theorem tkTxd_outside (h : s.line.tx = some ⟨content, ends⟩)
    (hout : moment + 80 * s.trunkBytes.length < ends ∨ ends ≤ moment) : s.tkTxd moment = none := by
  rw [tkTxd_eq h]
  refine itemAt_outside _ _ _ _ ?_
  rw [bitsOfBytes_length, bitTime]
  omega

end

theorem trunkBytes_marker {s : State} {m : Marker} {ends : Nat} (h : s.line.tx = some ⟨.marker m, ends⟩) :
    s.trunkBytes = m.bytes := by
  rw [State.trunkBytes, h]
  rfl

theorem trunkBytes_frame {s : State} {ends : Nat} {x : TrunkSlot} (h : s.line.tx = some ⟨.frame, ends⟩)
    (hx : s.queues.trunkSlot = some x) : s.trunkBytes = wireBytes x.frame.bytes := by
  rw [State.trunkBytes, h, hx]
  rfl

/-! ### The end of a marker (R32, R36, R92) -/

/-- Settles O35: the six bytes of the marker on the wire, and its end by the phase. -/
theorem markerEndLeadsOn : Obligations.MarkerEndLeadsOn := by
  intro s m ends hreset htx sent wire
  have hbytes : s.trunkBytes = wire := trunkBytes_marker htx
  have hlength : s.trunkBytes.length = 6 := by rw [hbytes]; rfl
  have hexec : exec .markerEnd s = .next sent.markerSent.arbitrate := by
    have hend : s.endMarker = sent.markerSent := by
      rw [State.endMarker, htx]
      rfl
    exact hend ▸ takeEvent_eq hreset
  refine ⟨by rw [State.tkTxen, htx]; rfl, fun i moment hi hfrom hto => ?_, fun moment hout => ?_, fun hphase => ?_,
    fun i e hphase hindex he => ?_⟩
  · rw [tkTxd_during htx (i := i) (by omega) (by omega) (by omega), hbytes]
  · exact tkTxd_outside htx (by omega)
  · have hmark : sent.markerSent = turningAround sent := by
      rw [State.markerSent, show sent.engine.phase = some .roundMark from hphase, toTurnaround_eq]
    rw [hexec, hmark]
  · have hcalled : sent.calledStation = e.station := calledStation_eq hindex he
    have hentry : sent.currentEntry = some e := by
      change s.engine.index.bind (fun i => s.store.active.entries[i]?) = some e
      rw [hindex]
      exact he
    rw [hexec, State.markerSent, show sent.engine.phase = some .calling from hphase]
    simp only [hcalled, hentry, countStation_eq]
    rfl

/-! ### The end of a head frame (R50, R93, R131) -/

theorem releaseTrunk_eq {qs : Queues} {x : TrunkSlot} (h : qs.trunkSlot = some x)
    (count : QueueCounters → QueueCounters) : qs.releaseTrunk count =
      { qs.on x.queue (Queue.count count) with trunkSlot := none, free := qs.free + x.frame.cells } := by
  rw [Queues.releaseTrunk, h]

/-- No queue that the drain selects holds a frame (R48). -/
theorem drainQueue_eq_none_iff (d : Drain) (qs : Queues) :
    drainQueue d qs = none ↔ (d ≠ .normalOnly → qs.dx.frames = []) ∧ (d ≠ .expOnly → qs.dn.frames = []) := by
  cases d <;> cases hdx : qs.dx.frames <;> cases hdn : qs.dn.frames <;> simp [drainQueue, hdx, hdn]

/-- A count of transmitted frames leaves the frames that a drain selects. -/
theorem drainQueue_released (d : Drain) (q : QueueName) (qs : Queues) (count : QueueCounters → QueueCounters)
    (slot : Option TrunkSlot) (free : Nat) :
    drainQueue d { qs.on q (Queue.count count) with trunkSlot := slot, free := free } = drainQueue d qs := by
  cases q <;> rfl

/-- Settles O36: the wire's bytes, and the end of the frame by trunk state and phase. -/
theorem headFrameEndReleasesItsCells : Obligations.HeadFrameEndReleasesItsCells := by
  intro s x ends hreset htx hslot released sent gapped empty wire length
  have hbytes : s.trunkBytes = wire := trunkBytes_frame htx hslot
  have hlength : length = 80 * s.trunkBytes.length := by
    rw [hbytes]
    simp [length, wire]
    omega
  have hexec : exec .headFrameEnd s = .next sent.frameSent.arbitrate := by
    have hend : s.endHeadFrame = sent.frameSent := by
      rw [State.endHeadFrame, htx]
      change State.frameSent (State.onQueues (Queues.releaseTrunk QueueCounters.transmit) _) = _
      rw [State.onQueues, show ((s.reach ends).stopTx false).queues = s.queues from rfl, releaseTrunk_eq hslot]
      rfl
    exact hend ▸ takeEvent_eq hreset
  have hselected : ∀ i e, s.engine.index = some i → s.store.active.entries[i]? = some e →
      (selectedEmpty sent = true ↔ empty e) := by
    intro i e hindex he
    have hentry : sent.currentEntry = some e := by
      change s.engine.index.bind (fun i => s.store.active.entries[i]?) = some e
      rw [hindex]
      exact he
    have hdrain : drainQueue e.drain sent.queues = drainQueue e.drain s.queues :=
      drainQueue_released e.drain x.queue s.queues QueueCounters.transmit none _
    rw [selectedEmpty, hentry]
    simp only [hdrain, Option.isNone_iff_eq_none]
    exact drainQueue_eq_none_iff _ _
  refine ⟨by rw [State.tkTxen, htx]; rfl, fun i moment hi hfrom hto => ?_, fun moment hout => ?_, fun htrunk => ?_,
    fun i e htrunk hphase hindex he => ?_, fun htrunk hphase => ?_⟩
  · rw [tkTxd_during htx (i := i) (hbytes ▸ hi) (by omega) (by omega), hbytes]
  · exact tkTxd_outside htx (by omega)
  · have hstops : (sent.engine.trunk == .stopping) = true := beq_iff_eq.mpr htrunk
    rw [hexec, State.frameSent, if_pos hstops, enterStopped_eq]
  · have hgoes : ¬ (sent.engine.trunk == .stopping) = true := fun heq => htrunk (beq_iff_eq.mp heq)
    rw [hexec, State.frameSent, if_neg hgoes, show sent.engine.phase = some .sending from hphase]
    simp only [Bool.or_eq_true, beq_iff_eq, hselected i e hindex he]
    rfl
  · have hgoes : ¬ (sent.engine.trunk == .stopping) = true := fun heq => htrunk (beq_iff_eq.mp heq)
    rw [hexec, State.frameSent, if_neg hgoes, show sent.engine.phase = some .floor from hphase]
    rfl

end Sys2Proof.Machine
end

section
/-! PROOFS. The end of a burst with its class, collisions, overruns and the end of the echo allowance. -/

namespace Sys2Proof.Machine

open Sys2Proof.Safety

/-! ### The class of a burst from its bits (R86 to R88) -/

theorem classify_of_clean {b : Burst} (hcollision : b.collision = false) (hoverrun : b.overrun = false) :
    b.classify = classifyBits b.bits := by
  simp [Burst.classify, hcollision, hoverrun]

/-- The types and ranges of a marker's fields (R87). -/
theorem inRange_iff (m : Marker) : m.inRange = true ↔ m.type = 0x1C
    ∨ (m.type = 0x2C ∧ 1 ≤ m.a.toNat ∧ m.a.toNat ≤ 30 ∧ 1 ≤ m.b.toNat ∧ m.b.toNat ≤ 8)
    ∨ (m.type = 0x3C ∧ 1 ≤ m.a.toNat ∧ m.a.toNat ≤ 30 ∧ m.b = 0) := by
  simp [Marker.inRange, roundStartType, callType, passType, and_assoc, or_assoc]

/-- The bytes of a run that was sent whole (R82). -/
theorem bytesOfBits_bitsOfBytes (l : List Byte) : bytesOfBits (bitsOfBytes l) = l := by
  simpa using bytesOfBits_sent l [] (by decide)

/-- A whole marker of a known type within its ranges is a MARKER (R87). -/
theorem classifyBits_marker {m : Marker} (h : m.inRange = true) :
    classifyBits (bitsOfBytes m.bytes) = .marker m := by
  have hlead : (bitsOfBytes m.bytes).take 16 = leadIn := rfl
  have hlength : (bitsOfBytes m.bytes).length = 48 := bitsOfBytes_length m.bytes
  rw [classifyBits, if_pos (beq_iff_eq.mpr hlead), classifyMarker, bytesOfBits_bitsOfBytes, hlength]
  exact if_pos (by simp [byteAt, Marker.bytes, h])

/-- Six bytes that begin with the lead-in and end with the check are a marker's (R212). -/
theorem marker_of_candidate {bits : List Bool} (hlead : bits.take 16 = leadIn) (hlength : bits.length = 48)
    {m : Marker} (hm : m = ⟨byteAt (bytesOfBits bits) 2, byteAt (bytesOfBits bits) 3, byteAt (bytesOfBits bits) 4⟩)
    (hcheck : byteAt (bytesOfBits bits) 5 = m.check) : bits = bitsOfBytes m.bytes := by
  obtain ⟨l, hl, rfl⟩ := bitsOfBytes_assembled 6 bits hlength
  match l, hl with
  | [a, b, t, x, y, c], _ =>
    have hfirst : bitsOfBytes [a, b] = bitsOfBytes [0x33, 0x0F] := hlead
    have hbytes : [a, b] = [0x33, 0x0F] := by
      rw [← bytesOfBits_bitsOfBytes [a, b], hfirst, bytesOfBits_bitsOfBytes]
    rw [bytesOfBits_bitsOfBytes] at hm hcheck
    simp only [List.cons.injEq, and_true] at hbytes
    obtain ⟨rfl, rfl⟩ := hbytes
    have hc : c = m.check := hcheck
    have hfields : m = ⟨t, x, y⟩ := hm
    rw [hc, hfields]
    rfl

/-- A marker candidate that is no whole marker in its ranges is a BAD_MARKER (R87). -/
theorem classifyBits_badMarker {bits : List Bool} (hlead : bits.take 16 = leadIn)
    (h : ∀ m : Marker, bits = bitsOfBytes m.bytes → ¬ m.inRange = true) : classifyBits bits = .badMarker := by
  rw [classifyBits, if_pos (beq_iff_eq.mpr hlead), classifyMarker]
  refine if_neg fun hgood => ?_
  simp only [Bool.and_eq_true, beq_iff_eq] at hgood
  obtain ⟨⟨hlength, hcheck⟩, hrange⟩ := hgood
  exact h _ (marker_of_candidate hlead hlength rfl hcheck) hrange

/-- A frame candidate is judged by its whole bytes after the start delimiter (R86, R88). -/
theorem classifyBits_frame {bits : List Bool} {n : Nat} (hlead : bits.take 16 ≠ leadIn)
    (hpair : firstPair bits = some (n, true)) (hfrom : 30 ≤ n) (hto : n + 2 ≤ 64) :
    classifyBits bits = classifyFrame (bytesOfBits (bits.drop (n + 2))) := by
  rw [classifyBits, if_neg (fun h => hlead (beq_iff_eq.mp h)), hpair]
  simp [hfrom, hto]

/-- Bits with no pair of 1 bits at the place of a start delimiter are NOISE (R86). -/
theorem classifyBits_noise {bits : List Bool} (hlead : bits.take 16 ≠ leadIn)
    (h : ∀ n, firstPair bits = some (n, true) → n < 30 ∨ 64 < n + 2) : classifyBits bits = .noise := by
  rw [classifyBits, if_neg (fun h => hlead (beq_iff_eq.mp h))]
  split
  · rename_i n hpair
    refine if_neg fun hplace => ?_
    simp only [Bool.and_eq_true, decide_eq_true_eq] at hplace
    have := h n hpair
    omega
  · rfl

/-- The class of a frame from its length and its FCS (R88). -/
theorem classifyFrame_eq (bytes : List Byte) : classifyFrame bytes =
    if bytes.length < 64 ∨ 1522 < bytes.length then .badFrame .length
    else if bytes.drop (bytes.length - 4) = fcsBytes (bytes.take (bytes.length - 4)) then .validFrame bytes
    else .badFrame .fcs := by
  simp only [classifyFrame, fcsCorrect, Bool.or_eq_true, decide_eq_true_eq, beq_iff_eq, gt_iff_lt]

/-! ### The end of a burst (R38 to R42, R85 to R88) -/

/-- The interface's counter of a class (R87). -/
theorem count_eq (k : BurstClass) (c : TrunkCounters) : k.count c = match k with
    | .badMarker => { c with badMarkers := c.badMarkers + 1 }
    | .marker m => if m.type = 0x1C ∨ m.type = 0x2C then { c with foreignMarkers := c.foreignMarkers + 1 } else c
    | .validFrame _ | .badFrame _ | .noise => c := by
  cases k <;> simp only [BurstClass.count, Bool.or_eq_true, beq_iff_eq] <;> rfl

/-- The bound-address check fails exactly on a source other than the bound address (R73, R74). -/
theorem boundPasses_eq (n : Nat) (bytes : List Byte) (s : State) :
    boundPasses n bytes s = !((s.station? n).bind Station.bound).any fun a => addrAt bytes 6 != a := by
  rw [boundPasses]
  cases (s.station? n).bind Station.bound with
  | none => rfl
  | some a => simp [frameSrc, bne]

/-- After a frame of the answer the continue window runs (R40). -/
theorem continueCall_eq (s : State) : s.continueCall = { s with engine :=
    { s.engine.enter (if s.engine.credit = 0 then .closing else .continuing) with
      timer := some (s.now + s.store.active.header.continueWindow * 10) } } := by
  simp only [State.continueCall, State.onEngine, beq_iff_eq, bitTime]

/-- A marker as an answer: a PASS of the called station ends the call, any other is STRAY (R40, R41). -/
theorem answerEnd_marker {s : State} {n : Nat} (hcalled : s.calledStation = n) (m : Marker) :
    s.answerEnd (.marker m) = if m.type = 0x3C ∧ m.a.toNat = n then
      s.endCall (if s.engine.framesInCall = 0 then .passed else .answered) else s.endCall .stray := by
  simp only [State.answerEnd, State.passEnd, hcalled, passType, Bool.and_eq_true, beq_iff_eq]

/-- A bad frame as an answer: EXCESS in CLOSING, otherwise it uses credit and is counted on the station (R39, R42). -/
theorem answerEnd_badFrame {s : State} {n : Nat} (hcalled : s.calledStation = n) (reason : BadReason) :
    s.answerEnd (.badFrame reason) = if s.engine.origin = some .closing then s.endCall .excess
      else State.continueCall { s with
        engine := { s.engine with credit := s.engine.credit - 1, framesInCall := s.engine.framesInCall + 1,
                                  badFrames := s.engine.badFrames + 1 }
        stations := s.stations.map fun x => if x.station = n then
          { x with counters := StationCounters.badFrame reason x.counters } else x } := by
  have hframe : s.badFrameEnd reason = State.continueCall (State.countStation s.calledStation
      (StationCounters.badFrame reason) (s.onEngine fun e =>
        { e with credit := e.credit - 1, framesInCall := e.framesInCall + 1, badFrames := e.badFrames + 1 })) := rfl
  simp only [State.answerEnd, beq_iff_eq, hframe, hcalled, countStation_eq]
  rfl

/-- A valid frame as an answer: EXCESS in CLOSING; counted as foreign when its source is not the bound address; otherwise
admitted (R39, R42, R73). -/
theorem answerEnd_validFrame {s : State} {n : Nat} (hcalled : s.calledStation = n) (bytes : List Byte) :
    s.answerEnd (.validFrame bytes) =
      let spent : Engine := { s.engine with
        credit := s.engine.credit - 1, framesInCall := s.engine.framesInCall + 1 }
      if s.engine.origin = some .closing then s.endCall .excess
      else if ((s.station? n).bind Station.bound).any (fun a => addrAt bytes 6 != a) then
        State.continueCall { s with
          engine := { spent with foreignFrames := s.engine.foreignFrames + 1 }
          stations := s.stations.map fun x => if x.station = n then
            { x with counters := StationCounters.validFrame false x.counters } else x }
      else State.continueCall (State.present { bytes := bytes, station := some n } { s with
          engine := spent
          stations := s.stations.map fun x => if x.station = n then
            { x with counters := StationCounters.validFrame true x.counters } else x }) := by
  simp only [State.answerEnd, beq_iff_eq, State.validFrameEnd, boundPasses_eq, hcalled, countStation_eq]
  cases ((s.station? n).bind Station.bound).any fun a => addrAt bytes 6 != a <;> rfl

/-- The window after a frame that is handed to the Admission Unit, which leaves the time and the tables (R39, R40). -/
theorem continueCall_present (p : Presented) (s : State) :
    (s.present p).continueCall = { s.present p with engine :=
      { (s.present p).engine.enter (if (s.present p).engine.credit = 0 then .closing else .continuing) with
        timer := some (s.now + s.store.active.header.continueWindow * 10) } } := by
  obtain ⟨-, hnow, -, -, hstore, -⟩ := present_frame p s
  have htimer : (s.present p).now + (s.present p).store.active.header.continueWindow * 10
      = s.now + s.store.active.header.continueWindow * 10 := by rw [hnow, hstore]
  rw [continueCall_eq, htimer]

/-- A burst that ends outside RECEIVING reaches no rule of the engine (R38). -/
theorem engineCarrierOff_outside {s : State} (h : s.engine.phase ≠ some .receiving) (k : BurstClass) :
    s.engineCarrierOff k = s := by
  rw [State.engineCarrierOff, if_neg (fun heq => h (beq_iff_eq.mp heq))]

/-- Settles O41: the class from the bits of the burst, then the engine's rule for the class. -/
theorem carrierOffDeliversTheClass : Obligations.CarrierOffDeliversTheClass := by
  refine ⟨fun b => ?_, fun dt bits s b hreset hburst => ?_⟩
  · intro leadInBits sent markerBits wellFormed pairAt
    have hlead : leadInBits = leadIn := by decide
    have hmarker : ∀ m : Marker, markerBits m = bitsOfBytes m.bytes := fun m => by
      change leadInBits ++ _ = _
      rw [hlead]
      rfl
    have hpair : ∀ n, firstPair b.bits = some (n, true) ↔ pairAt n := fun n => firstPair_eq_some b.bits n true
    refine ⟨fun hspoilt => ?_, fun hcollision hoverrun => ⟨fun m hbits hm => ?_, fun htake hno => ?_,
      fun htake n hn hfrom hto bytes half hbits hhalf => ?_, fun htake hno => ?_⟩⟩
    · rw [Burst.classify, if_pos (by simpa using hspoilt)]
    all_goals rw [classify_of_clean hcollision hoverrun]
    · rw [hbits, hmarker]
      exact classifyBits_marker ((inRange_iff m).mpr hm)
    · refine classifyBits_badMarker (hlead ▸ htake) fun m hbits hm => hno m ?_ ((inRange_iff m).mp hm)
      rw [hbits, hmarker]
    · have hwhole : bytesOfBits (b.bits.drop (n + 2)) = bytes := by
        rw [hbits]
        exact bytesOfBits_sent bytes half hhalf
      rw [classifyBits_frame (hlead ▸ htake) ((hpair n).mpr hn) hfrom hto, hwhole, classifyFrame_eq]
    · exact classifyBits_noise (hlead ▸ htake) fun n hn => hno n ((hpair n).mp hn)
  · intro off k counted
    have hfalls : ((s.pass dt).onPins fun p => { p with tkCrs := false, tkCol := false }).carrierFalls false bits
        = counted.engineCarrierOff k := by
      rw [State.carrierFalls, show ((s.pass dt).onPins fun p => { p with tkCrs := false, tkCol := false }).line.burst
        = some b from hburst]
      simp only [Bool.and_false, Bool.false_eq_true, if_false, State.endBurst, State.countTrunk, State.onTrunkCounters,
        count_eq]
      rfl
    have hexec : exec (.carrierOff dt false bits) s = .next (counted.engineCarrierOff k).arbitrate :=
      hfalls ▸ takeEvent_eq (s := (s.pass dt).onPins fun p => { p with tkCrs := false, tkCol := false }) hreset
    refine ⟨fun hphase => ?_, fun i e hphase hindex he => ?_⟩
    · have houtside : counted.engineCarrierOff k = counted :=
        engineCarrierOff_outside (s := counted) hphase k
      rw [hexec, houtside]
    · intro spent onwards tally
      have hcalled : counted.calledStation = e.station := calledStation_eq hindex he
      have hanswer : counted.engineCarrierOff k = counted.answerEnd k := if_pos (beq_iff_eq.mpr hphase)
      rw [hexec, hanswer]
      clear_value k
      cases k with
      | marker m => rw [answerEnd_marker hcalled]
      | badMarker => rfl
      | noise => rfl
      | badFrame reason => simp only [answerEnd_badFrame hcalled, continueCall_eq]; rfl
      | validFrame bytes => 
        rw [answerEnd_validFrame hcalled]
        congr 2
        refine if_congr Iff.rfl rfl (if_congr Iff.rfl ?_ ?_)
        · rw [continueCall_eq]; rfl
        · rw [continueCall_present]; rfl

/-! ### Collisions (R32, R36, R43, R51, R58, R85, R89, R132) -/

/-- A cut frame returns to the front of its queue at its first abort when there is place, and is dropped otherwise
(R132). -/
theorem abort_eq {qs : Queues} {x : TrunkSlot} (h : qs.trunkSlot = some x) : qs.abort =
    let q := qs.get x.queue
    let f := { x.frame with abortCount := some (x.frame.abortCount.getD 0 + 1) }
    if x.frame.abortCount.getD 0 = 0 ∧ q.frames.length + 1 ≤ q.frameLimit
        ∧ cellSum q.frames + cellsOf f.bytes.length ≤ q.cellLimit then
      { qs.on x.queue (fun y => { y with
          frames := f :: y.frames
          counters := { y.counters with returned := y.counters.returned + 1 } }) with trunkSlot := none }
    else
      { qs.on x.queue (fun y => { y with counters := { y.counters with abortDrop := y.counters.abortDrop + 1 } }) with
        trunkSlot := none, free := qs.free + cellsOf f.bytes.length } := by
  have hfirst : x.frame.abortCount.getD 0 + 1 < 2 ↔ x.frame.abortCount.getD 0 = 0 := by omega
  simp only [Queues.abort, h, releaseTrunk_eq h, Queue.hasPlaceFor, Bool.and_eq_true, decide_eq_true_eq, hfirst]
  rfl

/-- The marks of a first COLLISION in a burst, by whether a call is in flight (R43, R89). -/
theorem collisionMet_eq (b : Burst) (s : State) : collisionMet b s =
    let marked : State := { s with line := { s.line with burst := some { b with collision := true } } }
    if s.engine.phase = some .awaiting ∨ s.engine.phase = some .receiving ∨ s.engine.phase = some .continuing
      ∨ s.engine.phase = some .closing then marked.endCall .collided else marked := by
  unfold collisionMet
  rcases s.engine.phase with _ | p
  · rfl
  · cases p <;> rfl

/-- TK_COL on a quiet line: CARRIER_ON and then COLLISION in the burst that it begins (R85). -/
theorem collisionBurst_eq (s : State) : s.collisionBurst =
    collisionMet { start := s.now, fromCol := true } (carrierMet (s.beginBurst true)) := by
  rw [State.collisionBurst, engineCarrierOn_eq]
  exact burstCollision_eq (by rw [carrierMet_line]; rfl) rfl

/-- A cut marker leads to QUIETING with a RECOVERY (R32, R36). -/
theorem markerCollision_eq {s : State} (h : s.engine.phase = some .roundMark ∨ s.engine.phase = some .calling) :
    s.markerCollision = quieting (recovering none 0x02 { s with trunkCounters :=
      { s.trunkCounters with headCollisions := s.trunkCounters.headCollisions + 1 } }) := by
  rcases h with h | h <;> rw [State.markerCollision, h] <;> rfl

/-- A cut head frame is counted and leaves the slot; the trunk goes on by its state and phase (R28, R51, R58). -/
theorem frameCollision_eq {s : State} {after : Queues} (h : s.queues.abort = after) : s.frameCollision =
    let cut : State := { s with
      trunkCounters := { s.trunkCounters with headCollisions := s.trunkCounters.headCollisions + 1 }
      queues := after }
    if (s.engine.trunk == .stopping) = true then stoppedFrom cut
    else match s.engine.phase with
      | some .sending => quieting (recovering none 0x02 cut)
      | some .floor => (recovering none 0x02 cut).suspendFill
      | _ => cut := by
  subst h
  simp only [← enterStopped_eq]
  rfl

/-- Settles O42: what the rise of TK_COL meets is the head's sending, a burst, a quiet line or an echo allowance. -/
theorem collisionCutsOrMarks : Obligations.CollisionCutsOrMarks := by
  intro dt s hreset at_ headCounted
  have hexec : exec (.collision dt) s = .next at_.collisionRises.arbitrate := takeEvent_eq (s := at_) hreset
  refine ⟨fun m ends htx hphase => ?_, fun x ends htx hslot => ?_, fun b htx hburst => ?_, fun htx hburst hecho => ?_,
    fun x htx hburst hecho hruns => ?_⟩
  · have hrises : at_.collisionRises = (quieted true at_).markerCollision := by
      rw [State.collisionRises, show at_.line.tx = some ⟨.marker m, ends⟩ from htx]
      rfl
    rw [hexec, hrises, markerCollision_eq (s := quieted true at_) hphase]
    rfl
  · intro q f returns after cut
    have habort : s.queues.abort = after := abort_eq hslot
    have hrises : at_.collisionRises = (quieted true at_).frameCollision := by
      rw [State.collisionRises, show at_.line.tx = some ⟨.frame, ends⟩ from htx]
      rfl
    rw [hexec, hrises, frameCollision_eq (s := quieted true at_) habort]
    refine ⟨fun htrunk => ?_, fun htrunk hphase => ?_, fun htrunk hphase => ?_⟩
    · have hstops : ((quieted true at_).engine.trunk == .stopping) = true := beq_iff_eq.mpr htrunk
      exact congrArg (fun u : State => Host.Outcome.next u.arbitrate) (if_pos hstops)
    · have hgoes : ¬ ((quieted true at_).engine.trunk == .stopping) = true := fun heq => htrunk (beq_iff_eq.mp heq)
      rw [if_neg hgoes, show (quieted true at_).engine.phase = some .sending from hphase]
      rfl
    · have hgoes : ¬ ((quieted true at_).engine.trunk == .stopping) = true := fun heq => htrunk (beq_iff_eq.mp heq)
      rw [if_neg hgoes, show (quieted true at_).engine.phase = some .floor from hphase]
      rfl
  · intro marked
    have hrises : at_.collisionRises = at_.burstCollision := by
      rw [State.collisionRises, show at_.line.tx = none from htx]
      exact if_pos (by rw [State.carrier]; exact congrArg Option.isSome hburst)
    rw [hexec, hrises]
    cases hmarked : b.collision with
    | true =>
      have hstays : at_.burstCollision = at_ := by
        rw [State.burstCollision, show at_.line.burst = some b from hburst]
        exact if_pos hmarked
      rw [hstays]
      rfl
    | false =>
      rw [burstCollision_eq (s := at_) hburst hmarked, collisionMet_eq]
      rfl
  · intro b
    have hfree : ¬ at_.carrier = true := by
      rw [State.carrier, show at_.line.burst = none from hburst]
      decide
    have hover : ¬ at_.echoRunning = true := by
      rw [State.echoRunning]
      change ¬ (match s.line.echo with | some x => decide (s.now + dt < x.ends) | none => false) = true
      cases hx : s.line.echo with
      | none => simp
      | some x => simpa using hecho x hx
    rw [hexec, State.collisionRises, show at_.line.tx = none from htx]
    simp only [if_neg hfree, if_neg hover, collisionBurst_eq]
    rfl
  · have hfree : ¬ at_.carrier = true := by
      rw [State.carrier, show at_.line.burst = none from hburst]
      decide
    have hrunning : at_.echoRunning = true := by
      rw [State.echoRunning, show at_.line.echo = some x from hecho]
      exact decide_eq_true hruns
    rw [hexec, State.collisionRises, show at_.line.tx = none from htx]
    simp only [if_neg hfree, if_pos hrunning, State.onLine, show at_.line.echo = some x from hecho]
    rfl

/-! ### OVERRUN and the end of the echo allowance (R45, R55, R83 to R85, R90) -/

/-- OVERRUN at the engine: an outcome in a call, BLOCKED where nothing is sent, nothing elsewhere (R45, R55). -/
theorem engineOverrun_eq (s : State) : s.engineOverrun = match s.engine.phase with
    | some .receiving => s.endCall .overrun
    | some .quieting | some .turnaround | some .floor => blockedFrom none 0x05 s
    | some .roundMark | some .calling | some .awaiting | some .continuing | some .closing | some .sending
    | none => s := by
  rw [State.engineOverrun, enterBlocked_eq]
  rcases s.engine.phase with _ | p
  · rfl
  · cases p <;> rfl

/-- What begins at the end of the echo allowance, with `rose` for a rise of TK_COL in it that is still high (R84). -/
theorem echoOver_eq {x : Echo} {crs col rose : Bool} (hrose : (x.colRose && col) = rose) (s : State) :
    s.echoOver x crs col =
      let past : State := { s with line := { s.line with echo := none } }
      let heard := if x.cut then past.beginBurst false else carrierMet (past.beginBurst false)
      if crs then (if rose then heard.burstCollision else heard)
      else if rose then past.collisionBurst else past := by
  simp only [State.echoOver, State.echoCarrier, hrose, engineCarrierOn_eq]
  rfl

/-- Settles O43: the overrun by phase, and the burst that begins at the end of the echo allowance by both pins. -/
theorem overrunAndEchoAllowanceEnd : Obligations.OverrunAndEchoAllowanceEnd := by
  refine ⟨fun s b hreset hburst hfirst => ?_, fun s x crs col hreset hecho hruns => ?_⟩
  · intro marked
    have hover : s.burstOverrun = marked.engineOverrun := by
      rw [State.burstOverrun, hburst]
      simp only [hfirst, Bool.false_eq_true, if_false]
      rfl
    have hexec : exec .overrun s = .next marked.engineOverrun.arbitrate := hover ▸ takeEvent_eq hreset
    exact hexec.trans (congrArg (fun u : State => Host.Outcome.next u.arbitrate) (engineOverrun_eq marked))
  · intro past burst begun high
    have hend : s.endEcho crs col = ((s.reach x.ends).onPins fun p => { p with tkCrs := crs, tkCol := col }).echoOver
        x crs col := by
      rw [State.endEcho, hecho]
      exact if_pos hruns
    have hreach : s.reach x.ends = { s with now := x.ends } := by rw [State.reach, Nat.max_eq_right hruns]
    have hexec : exec (.echoAllowanceEnd crs col) s = .next (s.endEcho crs col).arbitrate := takeEvent_eq hreset
    have hbegun : past.beginBurst (!crs) = begun := rfl
    rw [hexec, hend, hreach]
    refine ⟨fun hcrs hlow => ?_, fun hcrs hup => ?_, fun hcrs hcut => ?_, fun hcrs hcut => ?_⟩
    · have hrose : (x.colRose && col) = false := by simpa [high] using hlow
      subst hcrs
      rw [echoOver_eq hrose]
      rfl
    · have hrose : (x.colRose && col) = true := by simpa [high] using hup
      subst hcrs
      rw [echoOver_eq hrose]
      exact congrArg (fun u : State => Host.Outcome.next u.arbitrate) (collisionBurst_eq past)
    · subst hcrs
      by_cases hup : high
      · have hrose : (x.colRose && col) = true := by simpa [high] using hup
        rw [echoOver_eq hrose, hcut, if_pos hup]
        exact congrArg (fun u : State => Host.Outcome.next u.arbitrate) (burstCollision_eq (s := begun) rfl rfl)
      · have hrose : (x.colRose && col) = false := by simpa [high] using hup
        rw [echoOver_eq hrose, hcut, if_neg hup]
        rfl
    · subst hcrs
      by_cases hup : high
      · have hrose : (x.colRose && col) = true := by simpa [high] using hup
        have hheld : (carrierMet begun).line.burst = some burst := by rw [carrierMet_line]
        rw [echoOver_eq hrose, hcut, if_pos hup]
        exact congrArg (fun u : State => Host.Outcome.next u.arbitrate) (burstCollision_eq hheld rfl)
      · have hrose : (x.colRose && col) = false := by simpa [high] using hup
        rw [echoOver_eq hrose, hcut, if_neg hup]
        rfl

end Sys2Proof.Machine
end

section
/-! PROOFS. The uplink port: the link events with the teardown, the reception, the ends of transmissions and gaps. -/

namespace Sys2Proof.Machine

open Sys2Proof.Safety

/-! ### The link (R133, R148, R149) -/

/-- The teardown of UQ: its frames and that of its slot are flushed, and their cells return (R133). -/
theorem queuesTeardown_eq (qs : Queues) : qs.teardown = { qs with
    uq := { qs.uq with frames := [], counters := { qs.uq.counters with
      flushed := qs.uq.counters.flushed
        + BitVec.ofNat 32 (qs.uq.frames.length + if qs.uplinkSlot.isSome then 1 else 0) } }
    uplinkSlot := none
    free := qs.free + cellSum qs.uq.frames + slotCells qs.uplinkSlot } := by
  rw [Queues.teardown, Queues.releaseUplink]
  cases hslot : qs.uplinkSlot with
  | none =>
    simp only [Queues.flush, Queues.get, Queues.on, hslot, slotCells, Queue.frameCount]
    rfl
  | some f =>
    simp only [Queues.flush, Queues.get, Queues.on, hslot, slotCells, Queue.frameCount, Queue.count,
      QueueCounters.flushOne, Option.isSome_some, if_true, BitVec.ofNat_add, BitVec.add_assoc]
    rfl

/-- Step 5 of the teardown: a lease that is held ends with its notice, and an unarmed PENDING reverts (R20, R149). -/
theorem cutLease_eq (s : State) : s.cutLease = { s with
    agent := { s.agent with lease := none }
    store := if s.agent.lease.isSome = true ∧ s.store.armed = false then { s.store with pending := s.store.active }
      else s.store
    notices := match s.agent.lease with
      | none => s.notices
      | some l => s.notices.raise s.engine.round .leaseEnded none
          ⟨0x02, 0x00, l.tag.extractLsb' 8 8, l.tag.extractLsb' 0 8⟩ } := by
  rw [State.cutLease]
  cases hlease : s.agent.lease with
  | none =>
    have hkept : { s.agent with lease := none } = s.agent := by rw [← hlease]
    rw [hkept, if_neg (by simp)]
  | some l =>
    have hreverted : (if (some l).isSome = true ∧ s.store.armed = false then
        { s.store with pending := s.store.active } else s.store) = s.store.revert := by
      rw [Store.revert]
      cases harmed : s.store.armed <;> simp [harmed]
    rw [hreverted]
    rfl

/-- The teardown up to its waiting reset (R149). -/
def tornDown (s : State) : State :=
  State.cutLease { s with
    uplink := { s.uplink with link := false, receiving := false, tx := .idle, counters := { s.uplink.counters with
      mgmtDropped := s.uplink.counters.mgmtDropped
        + BitVec.ofNat 32 (s.agent.input.filter InputEntry.fromUplink).length } }
    queues := s.queues.teardown
    agent := s.agent.teardown }

theorem teardown_eq (s : State) : s.teardown = (tornDown s).waitingReset := rfl

/-- Settles O44: the teardown, and the SOFT reset when one waits. -/
theorem linkEventsOpenAndTearDown : Obligations.LinkEventsOpenAndTearDown := by
  intro dt s hreset at_ uplinkRequests flushed down
  have hup : exec (.linkUp dt) s = .next (State.linkRises (at_ true)).arbitrate :=
    takeEvent_eq (s := at_ true) hreset
  have hdown : exec (.linkDown dt) s = .next (State.linkFalls (at_ false)).arbitrate :=
    takeEvent_eq (s := at_ false) hreset
  have htorn : tornDown (at_ false) = down := by
    rw [tornDown, queuesTeardown_eq]
    exact cutLease_eq _
  rw [hup, hdown]
  refine ⟨fun hlink => ?_, fun hlink => ?_, fun hlink => ?_, fun hlink hsoft => ?_, fun hlink hsoft => ?_⟩
  · rw [State.linkRises, if_neg (by simp [at_, hlink])]
    rfl
  · rw [State.linkRises, if_pos (by simp [at_, hlink])]
  · rw [State.linkFalls, if_neg (by simp [at_, hlink]), arbitrate_down (by exact hlink)]
  · have hwaits : ¬ down.agent.softReset = true := by
      rw [show down.agent.softReset = false from hsoft]
      decide
    rw [State.linkFalls, if_pos (by exact hlink), teardown_eq, htorn, State.waitingReset, if_neg hwaits,
      arbitrate_down rfl]
  · rw [State.linkFalls, if_pos (by exact hlink), teardown_eq, htorn, State.waitingReset, if_pos (by exact hsoft),
      arbitrate_down rfl]
    rfl

/-! ### Reception (R138, R140 to R142) -/

/-- The checks of a completed frame in their order, and where it goes (R140 to R142). -/
theorem checkFrame_eq (bytes : List Byte) (rxError : Bool) (s : State) :
    s.checkFrame bytes rxError =
      let c := s.uplink.counters
      let counts := fun (c : PortCounters) (input : List InputEntry) =>
        ({ s with uplink := { s.uplink with counters := c }, agent := { s.agent with input := input } } : State)
      let good := { c with rxGood := c.rxGood + 1 }
      if bytes.length < 64 ∨ 1522 < bytes.length then
        counts { c with lengthErrors := c.lengthErrors + 1 } s.agent.input
      else if rxError = true ∨ fcsCorrect bytes = false then
        counts { c with fcsErrors := c.fcsErrors + 1 } s.agent.input
      else if frameType bytes = 0xA7D1 ∧ (frameDst bytes = s.identity.factory ∨ frameDst bytes = 0x0B3A6C000001) then
        if 508 < bytes.length ∨ 4 ≤ s.agent.input.length then
          counts { good with mgmtDropped := c.mgmtDropped + 1 } s.agent.input
        else counts { good with mgmtTaken := c.mgmtTaken + 1 } (s.agent.input ++ [⟨.uplink, bytes⟩])
      else State.present { bytes := bytes, station := none } (counts good s.agent.input) := by
  simp only [State.checkFrame, State.goodFrame, addressedToPart, State.offerManagement, Bool.or_eq_true,
    Bool.and_eq_true, beq_iff_eq, decide_eq_true_eq, Bool.not_eq_true']
  rfl

/-- Settles O45: the start delimiter opens a reception, and its fall meets the checks in order. -/
theorem receptionChecksInOrder : Obligations.ReceptionChecksInOrder := by
  intro dt s groups half bytes rxError hreset hhalf wire delimited opens begun completed counts c good management
  have hbegun : begun = .next (State.beginReception groups (s.pass dt)).arbitrate :=
    takeEvent_eq (s := s.pass dt) hreset
  have hcompleted : completed
      = .next (State.completeReception (wire bytes ++ half) rxError (s.pass dt)).arbitrate :=
    takeEvent_eq (s := s.pass dt) hreset
  have hopens : endsPreamble groups = true ↔ opens := endsPreamble_iff groups
  have hbytes : bytesOfGroups (wire bytes ++ half) = bytes := bytesOfGroups_sent bytes half hhalf
  rw [hbegun, hcompleted]
  refine ⟨fun hlink hopen => ?_, fun hlink hshut => ?_, fun hlink => ?_, fun hidle => ?_, fun hreceiving => ?_⟩
  · have hlink' : (s.pass dt).uplink.link = true := hlink
    rw [State.beginReception, hlink', hopens.mpr hopen]
    rfl
  · have hshut' : endsPreamble groups = false := Bool.eq_false_iff.mpr (mt hopens.mp hshut)
    rw [State.beginReception, hshut', Bool.and_false]
    rfl
  · have hlink' : (s.pass dt).uplink.link = false := hlink
    rw [State.beginReception, hlink', Bool.false_and]
    exact congrArg Host.Outcome.next (arbitrate_down hlink')
  · have hidle' : ¬ (s.pass dt).uplink.receiving = true := by simpa using hidle
    rw [State.completeReception, if_neg hidle']
    rfl
  · have hreceiving' : (s.pass dt).uplink.receiving = true := hreceiving
    rw [State.completeReception, if_pos hreceiving', hbytes, checkFrame_eq]
    rfl

/-! ### The end of a transmission (R131, R138, R143, R146) -/

/-- The groups of a frame on UL_TXD, each for its clock period, and nothing outside them (R138, R143). -/
theorem ulTxd_carries {s : State} {source : UplinkSource} {ends : Nat} {frame : List Byte}
    (htx : s.uplink.tx = .sending source ends) (hframe : s.sourceFrame source = frame) :
    (∀ i moment : Nat, i < 2 * (wireBytes frame).length → ends + 4 * i ≤ moment + (frame.length + 8) * 8 →
        moment + (frame.length + 8) * 8 < ends + 4 * (i + 1) →
        s.ulTxd moment = some (((wireBytes frame).getD (i / 2) 0).extractLsb' (4 * (i % 2)) 4))
      ∧ ∀ moment : Nat, moment + (frame.length + 8) * 8 < ends ∨ ends ≤ moment → s.ulTxd moment = none := by
  have hwire : ∀ moment, s.ulTxd moment = itemAt (groupsOfBytes (wireBytes frame)) 4 ends moment := fun moment => by
    rw [State.ulTxd, htx, ← hframe]
    rfl
  have hlength : 4 * (groupsOfBytes (wireBytes frame)).length = (frame.length + 8) * 8 := by
    rw [groupsOfBytes_length, wireBytes_length]
    omega
  refine ⟨fun i moment hi hfrom hto => ?_, fun moment hout => ?_⟩
  · rw [hwire, itemAt_during _ _ _ _ i (by rwa [groupsOfBytes_length]) (by omega) (by omega),
      groupsOfBytes_get _ _ hi]
  · rw [hwire]
    exact itemAt_outside _ _ _ _ (by omega)

/-- In the gap the arbiter takes nothing (R144). -/
theorem arbitrate_gap {s : State} {ends : Nat} (h : s.uplink.tx = .gap ends) : s.arbitrate = s := by
  rw [State.arbitrate, h]
  simp

/-- In a reset the arbiter takes nothing (R204). -/
theorem arbitrate_reset {s : State} {r : ResetRun} (h : s.resetRun = some r) : s.arbitrate = s := by
  rw [State.arbitrate, h]
  rfl

/-- The end of a response that begins no reset: it leaves the output list and the gap runs (R143, R146). -/
theorem responseSent_plain {s : State} {r : OutputEntry} {rest : List OutputEntry} (hout : s.agent.output = r :: rest)
    (hplain : ¬ (r.answersReset && s.agent.softReset) = true) : s.responseSent = { s with
      agent := { s.agent with output := rest }
      uplink := { s.uplink with tx := .gap (s.now + 96), counters :=
        { s.uplink.counters with txResponses := s.uplink.counters.txResponses + 1 } } } := by
  rw [State.responseSent, hout]
  refine (if_neg hplain).trans ?_
  simp only [State.enterGap, State.countPorts, State.onUplink, State.onAgent, hout]
  rfl

/-- The end of the answer to a RESET_DEVICE begins the SOFT reset that waits (R176). -/
theorem responseSent_resets {s : State} {r : OutputEntry} {rest : List OutputEntry} (hout : s.agent.output = r :: rest)
    (hresets : (r.answersReset && s.agent.softReset) = true) : s.responseSent = { s with
      agent := { s.agent with output := rest, softReset := false }
      uplink := { s.uplink with tx := .idle, receiving := false, counters :=
        { s.uplink.counters with txResponses := s.uplink.counters.txResponses + 1 } }
      resetRun := some { kind := .soft, began := s.now }
      engine := {}, line := {}, led := {} } := by
  rw [State.responseSent, hout]
  refine (if_pos hresets).trans ?_
  simp only [State.beginReset, State.countPorts, State.onUplink, State.onAgent, hout]
  rfl

/-- A send is recorded on the record that holds the number, if one does (R188). -/
theorem recordSend_eq (number : BitVec 16) (retry : Nat) (l : NoticeList) : l.recordSend number retry =
    if (l.records.any fun n => n.number == number) = true then { l with
      records := l.records.map fun n => if n.number = number then
        { n with sends := min 65535 (n.sends + 1), retry := some retry } else n
      counters := { l.counters with sendsRecorded := l.counters.sendsRecorded + 1 } }
    else l := by
  simp only [NoticeList.recordSend, beq_iff_eq]
  rfl

/-- The end of a notice's transmission: its send is recorded, with the retry 2 s later, and the gap runs (R146, R188). -/
theorem noticeSent_eq (number : BitVec 16) (s : State) : s.noticeSent number = { s with
    notices := if (s.notices.records.any fun n => n.number == number) = true then { s.notices with
        records := s.notices.records.map fun n => if n.number = number then
          { n with sends := min 65535 (n.sends + 1), retry := some (s.now + 200000000) } else n
        counters := { s.notices.counters with sendsRecorded := s.notices.counters.sendsRecorded + 1 } }
      else s.notices
    uplink := { s.uplink with tx := .gap (s.now + 96), counters :=
      { s.uplink.counters with txNotices := s.uplink.counters.txNotices + 1 } } } := by
  rw [← recordSend_eq]
  rfl

theorem releaseUplink_eq {qs : Queues} {f : Frame} (h : qs.uplinkSlot = some f)
    (count : QueueCounters → QueueCounters) : qs.releaseUplink count =
      { qs with uq := qs.uq.count count, uplinkSlot := none, free := qs.free + f.cells } := by
  rw [Queues.releaseUplink, h]

/-- Settles O46: the groups on the wire, then the rule of each source. -/
theorem transmissionEndTellsItsSource : Obligations.TransmissionEndTellsItsSource := by
  intro s source ends hreset htx now c gapped ended carries
  have hended : ended = .next (State.sourceSent source (s.reach ends)).arbitrate := by
    have hend : s.endTransmission = State.sourceSent source (s.reach ends) := by rw [State.endTransmission, htx]
    exact hend ▸ takeEvent_eq hreset
  have hcarries : ∀ frame, s.sourceFrame source = frame → carries frame := fun frame hframe =>
    ulTxd_carries htx hframe
  rw [hended]
  refine ⟨by rw [State.ulTxen, htx], fun r rest hsource hout => ?_, fun number frame hsource => ?_,
    fun f hsource hslot => ?_, fun r rest hsource hout hplain => ?_, fun r rest hsource hout hmarked hsoft => ?_,
    fun number frame hsource => ?_, fun f hsource hslot => ?_⟩
  all_goals subst hsource
  · exact hcarries _ (by rw [State.sourceFrame, hout]; rfl)
  · exact hcarries _ rfl
  · exact hcarries _ (by rw [State.sourceFrame, hslot]; rfl)
  · have hplain' : ¬ (r.answersReset && s.agent.softReset) = true := by simpa using hplain
    have hsent : (s.reach ends).responseSent = _ := responseSent_plain hout hplain'
    exact congrArg Host.Outcome.next ((congrArg State.arbitrate hsent).trans (arbitrate_gap rfl))
  · have hresets : (r.answersReset && s.agent.softReset) = true := by simp [hmarked, hsoft]
    have hsent : (s.reach ends).responseSent = _ := responseSent_resets hout hresets
    exact congrArg Host.Outcome.next ((congrArg State.arbitrate hsent).trans (arbitrate_reset rfl))
  · intro held
    exact congrArg Host.Outcome.next ((arbitrate_gap rfl).trans (noticeSent_eq number (s.reach ends)))
  · have hreleased := releaseUplink_eq hslot QueueCounters.transmit
    refine congrArg Host.Outcome.next ((arbitrate_gap rfl).trans ?_)
    rw [State.sourceSent, State.forwardedSent, State.onQueues, show (s.reach ends).queues = s.queues from rfl, hreleased]
    rfl

/-! ### The arbiter (R143 to R145, R187) -/

/-- The arbiter's choice, in its order (R144). -/
theorem arbiterTake_eq (s : State) : s.arbiterTake =
    match s.agent.output, s.notices.records.find? (fun n => n.retry.isNone), s.queues.uplinkSlot,
      s.queues.uq.frames with
    | r :: _, _, _, _ => s.startUplink .response r.bytes.length
    | [], some n, _, _ => s.startUplink (.notice n.number (s.noticeFrame n)) (s.noticeFrame n).length
    | [], none, none, f :: rest => State.startUplink .forwarded f.bytes.length { s with
        queues := { s.queues with uq := { s.queues.uq with frames := rest }, uplinkSlot := some f } }
    | [], none, _, _ => s := by
  rw [State.arbiterTake, NoticeList.oldestDue]
  cases s.agent.output with
  | cons r rest => rfl
  | nil =>
    cases s.notices.records.find? (fun n => n.retry.isNone) with
    | some n => rfl
    | none =>
      cases hslot : s.queues.uplinkSlot with
      | some f => rfl
      | none =>
        cases hframes : s.queues.uq.frames with
        | nil => rfl
        | cons f rest =>
          simp only [State.onQueues, Queues.takeUp, hslot, hframes]
          rfl

/-- Settles O47: the transmitter is free at the end of the gap, and the arbiter acts on it unless the link is DOWN. -/
theorem arbiterTakesInOrder : Obligations.ArbiterTakesInOrder := by
  intro s ends hreset htx now sends idle due address noticeFrame
  have hexec : exec .uplinkGapEnd s = .next idle.arbitrate := by
    have hend : s.endUplinkGap = idle := by
      rw [State.endUplinkGap, htx]
      rfl
    exact hend ▸ takeEvent_eq hreset
  rw [hexec]
  cases hlink : s.uplink.link with
  | false => rw [if_pos rfl, arbitrate_down (by exact hlink)]
  | true =>
    have hacts : idle.arbitrate = idle.arbiterTake := by
      rw [State.arbitrate, show idle.resetRun = none from hreset, show idle.uplink.link = true from hlink]
      rfl
    rw [if_neg (by decide), hacts]
    exact congrArg Host.Outcome.next (arbiterTake_eq idle)

end Sys2Proof.Machine
end

section
/-! PROOFS. The timers of the agent, the notices, the seconds and the indicator; the resets and the state after one. -/

namespace Sys2Proof.Machine

open Sys2Proof.Safety

/-! ### Timers (R164, R172, R189, R201, R213) -/

/-- An event whose effect is known. -/
theorem takeEvent_of {f : State → State} {s u : State} (hreset : s.resetRun = none) (hf : f s = u) :
    takeEvent f s = .next u.arbitrate :=
  hf ▸ takeEvent_eq hreset

/-- Settles O48: the lease's end with its revert and notice, and the removal of one session record. -/
theorem leaseAndSessionsEnd : Obligations.LeaseAndSessionsEnd := by
  intro s address tag hreset
  refine ⟨fun l hlease => ?_, fun x hfind hother => ?_⟩
  · have hend : s.expireLease = ((s.reach l.expiry).endLease).raiseLeaseEnded .expired l.tag := by
      rw [State.expireLease, hlease]
    exact takeEvent_of hreset hend
  · have hfree : ¬ s.agent.holds address tag = true := fun hholds => by
      obtain ⟨l, hlease, haddress, htag⟩ := (holds_iff _ _ _).mp hholds
      exact hother l hlease ⟨haddress, htag⟩
    have hend : s.endIdleSession address tag = (s.reach (x.lastTake + sessionIdleLimit)).onAgent fun a =>
        { a with sessions := a.sessions.filter fun y => !y.hasKey address tag } := by
      rw [State.endIdleSession, show s.agent.sessions.find? (Session.hasKey address tag) = some x from hfind]
      exact if_neg hfree
    exact takeEvent_of hreset hend

/-- Settles O49: each timer by its own rule; the stretch of the flash is that of the trunk state. -/
theorem retrySecondAndFlash : Obligations.RetrySecondAndFlash := by
  refine ⟨fun s number n retry hreset hfind hretry => ?_, fun s hreset => takeEvent_eq hreset,
    fun s ends length hreset hstretch hlength => ?_⟩
  · have hend : s.retryNotice number = { s with
        now := max s.now retry
        notices := { s.notices with
          records := s.notices.records.map fun x => if x.number = number then { x with retry := none } else x } } := by
      rw [State.retryNotice, hfind, Option.bind_some, hretry]
      simp only [State.onNotices, beq_iff_eq]
      rfl
    exact takeEvent_of hreset hend
  · have hflash : flashStretch s.engine.trunk = some length := by
      rcases hlength with ⟨htrunk | htrunk, rfl⟩ | ⟨htrunk, rfl⟩ <;> rw [htrunk] <;> rfl
    have hend : s.flashLed = (s.reach ends).onLed fun l =>
        { lit := !l.lit, stretch := some ((s.reach ends).now + length) } := by
      rw [State.flashLed, hstretch, hflash]
    exact takeEvent_of hreset hend

/-! ### Resets (R193, R204 to R206) -/

/-- Settles O50: each reset command where no reset runs and where one does. -/
theorem resetsBeginAndOverlap : Obligations.ResetsBeginAndOverlap := by
  intro dt s now begun low
  refine ⟨fun hreset => ⟨?_, ?_⟩, fun r hreset => ⟨?_, ?_, ?_, ?_⟩⟩
  · have hpower : (s.pass dt).applyPower = begun .power := by
      rw [State.applyPower, show (s.pass dt).resetRun = none from hreset]
      rfl
    exact congrArg Host.Outcome.next hpower
  · have hpin : (s.pass dt).assertRstn = begun .pin := by
      rw [State.assertRstn, show (s.pass dt).resetRun = none from hreset]
      rfl
    exact congrArg (fun u : State => Host.Outcome.next (u.onPins fun p => { p with rstn := false })) hpin
  · have hpower : (s.pass dt).applyPower = { s with
        now := now, uplink := low, resetRun := some { r with kind := .power, settled := none } } := by
      rw [State.applyPower, show (s.pass dt).resetRun = some r from hreset]
      rfl
    exact congrArg Host.Outcome.next hpower
  · have hkind : r.kind.withPin = if r.kind = .power then .power else .pin := by cases r.kind <;> rfl
    have hpin : (s.pass dt).assertRstn = { s with
        now := now, uplink := low
        resetRun := some { r with kind := if r.kind = .power then .power else .pin, released := none } } := by
      rw [State.assertRstn, show (s.pass dt).resetRun = some r from hreset, ← hkind]
      rfl
    exact congrArg (fun u : State => Host.Outcome.next (u.onPins fun p => { p with rstn := false })) hpin
  · have hsettle : r.settle now = if r.kind = .power ∧ r.settled = none then { r with settled := some now } else r := by
      simp only [ResetRun.settle, Bool.and_eq_true, beq_iff_eq, Option.isNone_iff_eq_none]
    rw [← hsettle]
    change Host.Outcome.next { s.pass dt with resetRun := s.resetRun.map (ResetRun.settle now) } = _
    rw [hreset]
    rfl
  · change Host.Outcome.next ((s.pass dt).releaseRstn.onPins fun p => { p with rstn := true }) = _
    cases hrstn : s.pins.rstn with
    | true =>
      have hstays : (s.pass dt).releaseRstn = s.pass dt := if_pos hrstn
      rw [hstays, if_neg (by decide), ← hreset]
      rfl
    | false =>
      have hfreed : (s.pass dt).releaseRstn = { s.pass dt with resetRun := some { r with released := some now } } := by
        rw [State.releaseRstn, if_neg (by simpa using hrstn), show (s.pass dt).resetRun = some r from hreset]
        rfl
      rw [hfreed, if_pos rfl]
      rfl

/-- What the arbiter takes occupies the transmitter (R144). -/
theorem arbiterTake_busy (s : State) : s.arbiterTake = s ∨ (s.arbiterTake.uplink.tx == .idle) = false := by
  unfold State.arbiterTake
  (repeat' split) <;> simp [State.startUplink]

/-- The arbiter that has acted finds nothing more to do (R144). -/
theorem arbitrate_arbitrate (s : State) : s.arbitrate.arbitrate = s.arbitrate := by
  by_cases hacts : (s.resetRun.isNone && s.uplink.link && s.uplink.tx == .idle) = true
  · have htakes : s.arbitrate = s.arbiterTake := if_pos hacts
    rcases arbiterTake_busy s with hsame | hbusy
    · rw [htakes, hsame, htakes, hsame]
    · rw [htakes, State.arbitrate, hbusy, Bool.and_false]
      rfl
  · have hstays : s.arbitrate = s := if_neg hacts
    rw [hstays, hstays]

/-- The level of LINK that is the link state is no link event (R139). -/
theorem resetLink_same {s : State} {link : Bool} (h : s.uplink.link = link) : s.resetLink link = s := by
  cases link with
  | true => rw [State.resetLink, if_pos rfl, State.linkRises, if_pos h]
  | false => rw [State.resetLink, if_neg (by decide), State.linkFalls, if_neg (by simp [h])]

/-- With no carrier and with LINK at the link state the reset ends in the state after it, and no event follows (R206). -/
theorem finishReset_quiet {k : ResetKind} {link : Bool} {s : State} (h : k.keptLink s.uplink.link = link) :
    s.finishReset k false link
      = (State.afterReset k (s.onPins fun p => { p with link := link, tkCrs := false })).arbitrate := by
  have hlevel : (State.afterReset k (s.onPins fun p => { p with link := link, tkCrs := false })).arbitrate.uplink.link
      = link := by
    rw [(arbitrate_uplink _).1]
    exact h
  rw [State.finishReset, State.resetCarrier, if_neg (by decide), resetLink_same hlevel, arbitrate_arbitrate]

/-- Settles O51: at its moment the reset leaves the state after it, and no event follows. -/
theorem resetEndLeavesTheResetState : Obligations.ResetEndLeavesTheResetState := by
  intro s r link hreset hlink ends
  have hends : resetEndMoment s.pins.rstn r = ends := rfl
  have hexec : exec (.resetEnd false link) s = .next (s.endReset false link) := rfl
  refine ⟨fun hnone => ?_, fun t hsome => ?_⟩
  · have hwaits : s.endReset false link = s := by
      simp only [State.endReset, hreset, hends, hnone]
    rw [hexec, hwaits]
  · have hfinish : s.endReset false link = (s.reach t).finishReset r.kind false link := by
      simp only [State.endReset, hreset, hends, hsome]
    have hkept : r.kind.keptLink s.uplink.link = link := by
      rw [hlink]
      cases r.kind <;> rfl
    rw [hexec, hfinish, finishReset_quiet (s := s.reach t) hkept]
    congr 2
    have hlow : r.kind.keptLink ((s.reach t).onPins fun p => { p with link := link, tkCrs := false }).uplink.link
        = link := hkept
    rw [State.afterReset, hlow]
    generalize r.kind = kind
    cases kind <;> rfl

/-! ### The state after reset (R3, R5, R23, R60, R99, R118, R123, R177, R193) -/

/-- Settles O52: the fields of the state after reset, and each law on them. -/
theorem resetStateMeetsTheLaws : Obligations.ResetStateMeetsTheLaws := by
  refine ⟨rfl, rfl, rfl, rfl, rfl, rfl, rfl, rfl, rfl, rfl, by decide, rfl, rfl, rfl, rfl, rfl, rfl, rfl, rfl, rfl, rfl,
    rfl, rfl, (queueLaw_iff _).mpr ⟨reset_within, fun _ _ => rfl⟩, ⟨rfl, Nat.zero_le _, Nat.zero_le _⟩,
    ⟨Nat.zero_le _, Nat.zero_le _, nofun, fun h => absurd rfl h, fun _ => .inr rfl⟩, fun h => absurd rfl h,
    ⟨nofun, nofun⟩, ⟨Nat.zero_le _, List.nodup_nil, nofun⟩, (noticeLaw_iff _).mpr (restarted_inOrder _)⟩

end Sys2Proof.Machine
end
